-- ==== Sys2Proof/Word.lean ====
section
/-! DEFINITION. The byte of the part's frames and the 32-tier set (R188). -/

namespace Sys2Proof

/-- One byte of a request, response, downstream or upstream frame. -/
abbrev Byte := BitVec 8

/-- A set of tiers: bit n stands for tier n, as in the 4-byte mask of R188. -/
abbrev TierSet := BitVec 32

/-- The tier n is in the set. -/
def hasTier (m : TierSet) (n : Nat) : Bool := m.getLsbD n

end Sys2Proof
end

