-- ==== Sys2Proof/Syntax.lean ====
section
/-! DEFINITION. The commands of the part, one constructor per row of the table of operations and events.
A request carries its frame's tag and its operands as the numbers its frame carries (R190, R191), a level as a signed
number; an enumerated operand is its code (R188). A plant frame carries the sender's system code and its fields (R193). -/

namespace Sys2Proof

/-- An edge of the select line (R179): its assertion, or its release with the number of bytes the host clocked out. A release
that no assertion went before is a whole select period. -/
inductive SelectEdge where
  | asserted
  | released (clocked : Nat)
  deriving DecidableEq, Repr

/-- One command of the part: a request taken from the host, or an event. -/
inductive Instr where
  -- requests of the Subscriber Table
  | addSubscriber (tag account ceiling : Nat)
  | assignConverter (tag slot address : Nat)
  | assignPort (tag slot tap port : Nat)
  | grantTiers (tag slot : Nat) (tiers : TierSet)
  | revokeTiers (tag slot : Nat) (tiers : TierSet)
  | setCeiling (tag slot ceiling : Nat)
  | connect (tag slot : Nat)
  | suspend (tag slot : Nat)
  | resume (tag slot : Nat)
  | disconnect (tag slot : Nat)
  | reissue (tag slot : Nat)
  | retire (tag slot : Nat)
  | findSubscriber (tag kind value : Nat)
  | readSubscriber (tag slot : Nat)
  -- requests of the Tier and Line-up Unit
  | defineTier (tag tier rate : Nat)
  | setTierRate (tag tier rate : Nat)
  | undefineTier (tag tier : Nat)
  | readTier (tag tier : Nat)
  | beginEdit (tag : Nat)
  | putChannel (tag number carrier program kind tier : Nat)
  | dropChannel (tag number : Nat)
  | abandonEdit (tag : Nat)
  | promote (tag minute : Nat)
  | cancelPromote (tag : Nat)
  | readChannel (tag generation number : Nat)
  | putOffer (tag slot event channel price tier opens closes airEnd : Nat)
  | withdrawOffer (tag slot : Nat)
  | readOffer (tag slot : Nat)
  -- requests of the Plant Tree
  | addElement (tag index kind parent group member : Nat) (last : Option Nat)
  | removeElement (tag index : Nat)
  | findElement (tag group member : Nat)
  | readElement (tag index : Nat)
  -- requests of the Poll Engine
  | setPollSettings (tag timeout missLimit period : Nat)
  | setPolling (tag index enable : Nat)
  | setLevelWindow (tag index : Nat) (low high : Int) (hysteresis : Nat)
  | readPolling (tag : Nat)
  -- requests of the Order Engine, the Downstream Scheduler and the Upstream Receiver
  | clearPort (tag tap port : Nat)
  | readOrder (tag position : Nat)
  | readDownstream (tag : Nat)
  | readCounters (tag : Nat)
  -- requests of the Accrual Engine
  | setThreshold (tag ticks : Nat)
  | readAccrual (tag : Nat)
  | startPeriod (tag days : Nat)
  | takeStatement (tag slot : Nat)
  -- requests of the Notice Queue, the clock and the identity
  | takeNotice (tag : Nat)
  | setAlarmLevel (tag level : Nat)
  | setSystemCode (tag code : Nat)
  | setTime (tag minute : Nat)
  | readStatus (tag : Nat)
  | restart (tag : Nat)
  -- the Management Port, the resets and the clock
  | selectPeriod (edge : SelectEdge) (dataIn : List Byte)
  | resetPin
  | restartComplete
  | powerOnReset (straps : Nat)
  | secondTick
  | minuteEvent
  -- the walks
  | accrualVisit
  | accrualWalkEnd
  | periodVisit
  | periodWalkEnd
  | propagationVisit
  | rederiveVisit
  | propagationWalkEnd
  | rederiveWalkEnd
  -- polling, transmission and the plant's frames
  | roundTimerExpiry
  | transmissionEnd
  | pollReply (system group member : Nat) (level : Int) (power : Nat)
  | orderReply (system group member : Nat) (results : List (Nat × Nat))
  | hold (system group member : Nat)
  | purchase (system converter event : Nat)
  /-- An upstream frame by its bytes; none: the first bit of a frame is taken in, its kind not known yet (R129). -/
  | unknownKindFrame (frame : Option (List Byte))
  | windowExpiry
  deriving DecidableEq, Repr

end Sys2Proof
end

