-- ==== Sys2Proof/WellFormed.lean ====
section
/-! DEFINITION. When a command is one its frame can carry: every operand fits its field (R190, R193).
A request operand that fits its field may still lie outside its range, which its rule answers with RANGE. -/

namespace Sys2Proof

/-- The number fits a field of so many bytes. -/
def fits (bytes n : Nat) : Bool := decide (n < 256 ^ bytes)

/-- The number fits a signed field of 2 bytes. -/
def fitsSigned (i : Int) : Bool := decide (-32768 ≤ i) && decide (i ≤ 32767)

/-- Every operand of the command fits the field its frame gives it (R190, R191, R193). An ORDER REPLY carries at
most 255 results in its count byte; the straps are two pins. -/
def Instr.wf : Instr → Bool
  | .addSubscriber tag account ceiling => fits 1 tag && fits 4 account && fits 2 ceiling
  | .assignConverter tag slot address => fits 1 tag && fits 2 slot && fits 3 address
  | .assignPort tag slot tap port => fits 1 tag && fits 2 slot && fits 2 tap && fits 1 port
  | .grantTiers tag slot _ => fits 1 tag && fits 2 slot
  | .revokeTiers tag slot _ => fits 1 tag && fits 2 slot
  | .setCeiling tag slot ceiling => fits 1 tag && fits 2 slot && fits 2 ceiling
  | .connect tag slot => fits 1 tag && fits 2 slot
  | .suspend tag slot => fits 1 tag && fits 2 slot
  | .resume tag slot => fits 1 tag && fits 2 slot
  | .disconnect tag slot => fits 1 tag && fits 2 slot
  | .reissue tag slot => fits 1 tag && fits 2 slot
  | .retire tag slot => fits 1 tag && fits 2 slot
  | .findSubscriber tag kind value => fits 1 tag && fits 1 kind && fits 4 value
  | .readSubscriber tag slot => fits 1 tag && fits 2 slot
  | .defineTier tag tier rate => fits 1 tag && fits 1 tier && fits 2 rate
  | .setTierRate tag tier rate => fits 1 tag && fits 1 tier && fits 2 rate
  | .undefineTier tag tier => fits 1 tag && fits 1 tier
  | .readTier tag tier => fits 1 tag && fits 1 tier
  | .beginEdit tag => fits 1 tag
  | .putChannel tag number carrier program kind tier =>
      fits 1 tag && fits 2 number && fits 1 carrier && fits 1 program && fits 1 kind && fits 1 tier
  | .dropChannel tag number => fits 1 tag && fits 2 number
  | .abandonEdit tag => fits 1 tag
  | .promote tag minute => fits 1 tag && fits 4 minute
  | .cancelPromote tag => fits 1 tag
  | .readChannel tag generation number => fits 1 tag && fits 1 generation && fits 2 number
  | .putOffer tag slot event channel price tier opens closes airEnd =>
      fits 1 tag && fits 1 slot && fits 2 event && fits 2 channel && fits 2 price && fits 1 tier
        && fits 4 opens && fits 4 closes && fits 4 airEnd
  | .withdrawOffer tag slot => fits 1 tag && fits 1 slot
  | .readOffer tag slot => fits 1 tag && fits 1 slot
  | .addElement tag index kind parent group member last =>
      fits 1 tag && fits 2 index && fits 1 kind && fits 2 parent && fits 1 group && fits 1 member
        && (match last with | some b => fits 1 b | none => true)
  | .removeElement tag index => fits 1 tag && fits 2 index
  | .findElement tag group member => fits 1 tag && fits 1 group && fits 1 member
  | .readElement tag index => fits 1 tag && fits 2 index
  | .setPollSettings tag timeout missLimit period =>
      fits 1 tag && fits 1 timeout && fits 1 missLimit && fits 2 period
  | .setPolling tag index enable => fits 1 tag && fits 2 index && fits 1 enable
  | .setLevelWindow tag index low high hysteresis =>
      fits 1 tag && fits 2 index && fitsSigned low && fitsSigned high && fits 1 hysteresis
  | .readPolling tag => fits 1 tag
  | .clearPort tag tap port => fits 1 tag && fits 2 tap && fits 1 port
  | .readOrder tag position => fits 1 tag && fits 1 position
  | .readDownstream tag => fits 1 tag
  | .readCounters tag => fits 1 tag
  | .setThreshold tag ticks => fits 1 tag && fits 1 ticks
  | .readAccrual tag => fits 1 tag
  | .startPeriod tag days => fits 1 tag && fits 1 days
  | .takeStatement tag slot => fits 1 tag && fits 2 slot
  | .takeNotice tag => fits 1 tag
  | .setAlarmLevel tag level => fits 1 tag && fits 1 level
  | .setSystemCode tag code => fits 1 tag && fits 2 code
  | .setTime tag minute => fits 1 tag && fits 4 minute
  | .readStatus tag => fits 1 tag
  | .restart tag => fits 1 tag
  | .selectPeriod .asserted dataIn => dataIn.isEmpty
  | .selectPeriod (.released _) _ => true
  | .resetPin => true
  | .restartComplete => true
  | .powerOnReset straps => decide (straps < 4)
  | .secondTick => true
  | .minuteEvent => true
  | .accrualVisit => true
  | .accrualWalkEnd => true
  | .periodVisit => true
  | .periodWalkEnd => true
  | .propagationVisit => true
  | .rederiveVisit => true
  | .propagationWalkEnd => true
  | .rederiveWalkEnd => true
  | .roundTimerExpiry => true
  | .transmissionEnd => true
  | .pollReply system group member level power =>
      fits 2 system && fits 1 group && fits 1 member && fitsSigned level && fits 1 power
  | .orderReply system group member results =>
      fits 2 system && fits 1 group && fits 1 member && fits 1 results.length
        && results.all (fun r => fits 1 r.1 && fits 1 r.2)
  | .hold system group member => fits 2 system && fits 1 group && fits 1 member
  | .purchase system converter event => fits 2 system && fits 3 converter && fits 2 event
  | .unknownKindFrame _ => true
  | .windowExpiry => true

end Sys2Proof
end

