-- ==== Sys2Proof/Decode.lean ====
section
/-! DEFINITION. The frames the part is sent: the check sequence (R189), request frames (R180, R190, R191) and upstream
frames (R193, R194), each with the parser the part applies to any bytes and the encoder that writes a frame. After them
`decodeTableWord`: no row of the table of operations gives bits, so no word of the table spells a command. -/

namespace Sys2Proof

-- numbers in frames

/-- A number sent most significant byte first in a field of so many bytes (R188). -/
def be : Nat → Nat → List Byte
  | 0, _ => []
  | w + 1, n => BitVec.ofNat 8 (n / 256 ^ w) :: be w n

/-- The number of a field of 2 bytes. -/
def num2 (a b : Byte) : Nat := a.toNat * 256 + b.toNat
/-- The number of a field of 3 bytes. -/
def num3 (a b c : Byte) : Nat := num2 a b * 256 + c.toNat
/-- The number of a field of 4 bytes. -/
def num4 (a b c d : Byte) : Nat := num2 a b * 65536 + num2 c d

/-- The signed number of a field of 2 bytes (R188: a level). -/
def signed2 (a b : Byte) : Int :=
  if num2 a b < 32768 then (num2 a b : Int) else (num2 a b : Int) - 65536

/-- A signed number as the content of a field of 2 bytes. -/
def beSigned (i : Int) : List Byte := be 2 (i % 65536).toNat

-- the check sequence (R189)

/-- One bit of the CRC-16 with polynomial 0x1021. -/
def crcBit (c : BitVec 16) : BitVec 16 := if c.msb then (c <<< 1) ^^^ 0x1021#16 else c <<< 1

/-- One byte of the CRC-16, most significant bit first. -/
def crcByte (c : BitVec 16) (b : Byte) : BitVec 16 :=
  crcBit (crcBit (crcBit (crcBit (crcBit (crcBit (crcBit (crcBit
    (c ^^^ (b.zeroExtend 16 <<< 8)))))))))

/-- The check sequence over the bytes: register preset to 0xFFFF, no final inversion (R189). -/
def crc (bs : List Byte) : BitVec 16 := bs.foldl crcByte 0xFFFF#16

/-- The bytes followed by their check sequence, high byte first (R189). -/
def withCheck (bs : List Byte) : List Byte := bs ++ be 2 (crc bs).toNat

/-- The frame's bytes before its check sequence, if the check sequence over them is right. A frame too short to hold a
check sequence has none that is right. -/
def checkedContent (bs : List Byte) : Option (List Byte) :=
  if bs.length < 2 then none
  else if withCheck (bs.take (bs.length - 2)) = bs then some (bs.take (bs.length - 2)) else none

-- request frames (R180, R190, R191)

/-- Why a request frame is answered BAD REQUEST (R180). -/
inductive FrameFault where
  | length
  | check
  | code
  deriving DecidableEq, Repr

/-- What a request frame parses to: BAD REQUEST with the frame's tag and a reason, or a request. -/
inductive Parsed where
  | bad (tag : Nat) (fault : FrameFault)
  | request (i : Instr)
  deriving DecidableEq, Repr

/-- The operands of a request that takes none. -/
def operands0 (i : Instr) : List Byte → Option Instr
  | [] => some i
  | _ => none

/-- The operand of a request that takes one of 1 byte. -/
def operands1 (k : Nat → Instr) : List Byte → Option Instr
  | [a] => some (k a.toNat)
  | _ => none

/-- The operand of a request that takes one of 2 bytes. -/
def operands2 (k : Nat → Instr) : List Byte → Option Instr
  | [a, b] => some (k (num2 a b))
  | _ => none

/-- The operand of a request that takes one of 4 bytes. -/
def operands4 (k : Nat → Instr) : List Byte → Option Instr
  | [a, b, c, d] => some (k (num4 a b c d))
  | _ => none

/-- The operands of a request that takes 1 byte and then 2. -/
def operands12 (k : Nat → Nat → Instr) : List Byte → Option Instr
  | [a, b, c] => some (k a.toNat (num2 b c))
  | _ => none

/-- The operands of a request that takes 2 bytes and then 1. -/
def operands21 (k : Nat → Nat → Instr) : List Byte → Option Instr
  | [a, b, c] => some (k (num2 a b) c.toNat)
  | _ => none

/-- The operands of a request that takes a slot and a tier mask (R191). -/
def operandsMask (k : Nat → TierSet → Instr) : List Byte → Option Instr
  | [a, b, c, d, e, f] => some (k (num2 a b) (BitVec.ofNat 32 (num4 c d e f)))
  | _ => none

/-- The request of a code whose frame has the length its request takes (R180 checks 3 and 4, R190): none where the length
is another, and the fault `code` is told apart by `requestCode`. -/
def requestOf (tag code : Nat) (body : List Byte) : Option Instr :=
  match code with
  | 1 => (match body with
    | [a, b, c, d, e, f] => some (.addSubscriber tag (num4 a b c d) (num2 e f))
    | _ => none)
  | 2 => (match body with
    | [a, b, c, d, e] => some (.assignConverter tag (num2 a b) (num3 c d e))
    | _ => none)
  | 3 => (match body with
    | [a, b, c, d, e] => some (.assignPort tag (num2 a b) (num2 c d) e.toNat)
    | _ => none)
  | 4 => operandsMask (.grantTiers tag) body
  | 5 => operandsMask (.revokeTiers tag) body
  | 6 => (match body with
    | [a, b, c, d] => some (.setCeiling tag (num2 a b) (num2 c d))
    | _ => none)
  | 7 => operands2 (.connect tag) body
  | 8 => operands2 (.suspend tag) body
  | 9 => operands2 (.resume tag) body
  | 10 => operands2 (.disconnect tag) body
  | 11 => operands2 (.reissue tag) body
  | 12 => operands2 (.retire tag) body
  | 13 => (match body with
    | [k, a, b, c, d] => some (.findSubscriber tag k.toNat (num4 a b c d))
    | _ => none)
  | 14 => operands2 (.readSubscriber tag) body
  | 15 => operands12 (.defineTier tag) body
  | 16 => operands12 (.setTierRate tag) body
  | 17 => operands1 (.undefineTier tag) body
  | 18 => operands1 (.readTier tag) body
  | 19 => operands0 (.beginEdit tag) body
  | 20 => (match body with
    | [a, b, c, d, e, f] => some (.putChannel tag (num2 a b) c.toNat d.toNat e.toNat f.toNat)
    | _ => none)
  | 21 => operands2 (.dropChannel tag) body
  | 22 => operands0 (.abandonEdit tag) body
  | 23 => operands4 (.promote tag) body
  | 24 => operands0 (.cancelPromote tag) body
  | 25 => operands12 (.readChannel tag) body
  | 26 => (match body with
    | [s, e1, e0, c1, c0, p1, p0, t, o3, o2, o1, o0, l3, l2, l1, l0, a3, a2, a1, a0] =>
      some (.putOffer tag s.toNat (num2 e1 e0) (num2 c1 c0) (num2 p1 p0) t.toNat
        (num4 o3 o2 o1 o0) (num4 l3 l2 l1 l0) (num4 a3 a2 a1 a0))
    | _ => none)
  | 27 => operands1 (.withdrawOffer tag) body
  | 28 => operands1 (.readOffer tag) body
  | 29 => (match body with
    | [a, b, k, c, d, g, m] =>
      some (.addElement tag (num2 a b) k.toNat (num2 c d) g.toNat m.toNat none)
    | [a, b, k, c, d, g, m, l] =>
      some (.addElement tag (num2 a b) k.toNat (num2 c d) g.toNat m.toNat (some l.toNat))
    | _ => none)
  | 30 => operands2 (.removeElement tag) body
  | 31 => (match body with
    | [g, m] => some (.findElement tag g.toNat m.toNat)
    | _ => none)
  | 32 => operands2 (.readElement tag) body
  | 33 => (match body with
    | [t, m, a, b] => some (.setPollSettings tag t.toNat m.toNat (num2 a b))
    | _ => none)
  | 34 => operands21 (.setPolling tag) body
  | 35 => (match body with
    | [a, b, l1, l0, h1, h0, d] =>
      some (.setLevelWindow tag (num2 a b) (signed2 l1 l0) (signed2 h1 h0) d.toNat)
    | _ => none)
  | 36 => operands0 (.readPolling tag) body
  | 37 => operands21 (.clearPort tag) body
  | 38 => operands1 (.readOrder tag) body
  | 39 => operands0 (.readDownstream tag) body
  | 40 => operands0 (.readCounters tag) body
  | 41 => operands1 (.setThreshold tag) body
  | 42 => operands0 (.readAccrual tag) body
  | 43 => operands1 (.startPeriod tag) body
  | 44 => operands2 (.takeStatement tag) body
  | 45 => operands0 (.takeNotice tag) body
  | 46 => operands1 (.setAlarmLevel tag) body
  | 47 => operands2 (.setSystemCode tag) body
  | 48 => operands4 (.setTime tag) body
  | 49 => operands0 (.readStatus tag) body
  | 50 => operands0 (.restart tag) body
  | _ => none

/-- The tag of a frame long enough to hold one, and 0 otherwise (R180). -/
def frameTag : List Byte → Nat
  | [] => 0
  | t :: _ => t.toNat

/-- Parse the bytes of one request frame: length, check sequence, code, length of the request, in that order (R180). -/
def parseRequest (bs : List Byte) : Parsed :=
  if bs.length < 4 then .bad (frameTag bs) .length
  else
    match checkedContent bs with
    | none => .bad (frameTag bs) .check
    | some content =>
      match content with
      | tag :: code :: body =>
        if code.toNat < 1 ∨ 50 < code.toNat then .bad tag.toNat .code
        else
          match requestOf tag.toNat code.toNat body with
          | some i => .request i
          | none => .bad tag.toNat .length
      | _ => .bad (frameTag bs) .length

/-- The tag, the request code and the operand bytes of a request (R190), none for an event. -/
def Instr.requestParts : Instr → Option (Nat × Nat × List Byte)
  | .addSubscriber tag account ceiling => some (tag, 1, be 4 account ++ be 2 ceiling)
  | .assignConverter tag slot address => some (tag, 2, be 2 slot ++ be 3 address)
  | .assignPort tag slot tap port => some (tag, 3, be 2 slot ++ be 2 tap ++ be 1 port)
  | .grantTiers tag slot tiers => some (tag, 4, be 2 slot ++ be 4 tiers.toNat)
  | .revokeTiers tag slot tiers => some (tag, 5, be 2 slot ++ be 4 tiers.toNat)
  | .setCeiling tag slot ceiling => some (tag, 6, be 2 slot ++ be 2 ceiling)
  | .connect tag slot => some (tag, 7, be 2 slot)
  | .suspend tag slot => some (tag, 8, be 2 slot)
  | .resume tag slot => some (tag, 9, be 2 slot)
  | .disconnect tag slot => some (tag, 10, be 2 slot)
  | .reissue tag slot => some (tag, 11, be 2 slot)
  | .retire tag slot => some (tag, 12, be 2 slot)
  | .findSubscriber tag kind value => some (tag, 13, be 1 kind ++ be 4 value)
  | .readSubscriber tag slot => some (tag, 14, be 2 slot)
  | .defineTier tag tier rate => some (tag, 15, be 1 tier ++ be 2 rate)
  | .setTierRate tag tier rate => some (tag, 16, be 1 tier ++ be 2 rate)
  | .undefineTier tag tier => some (tag, 17, be 1 tier)
  | .readTier tag tier => some (tag, 18, be 1 tier)
  | .beginEdit tag => some (tag, 19, [])
  | .putChannel tag number carrier program kind tier =>
      some (tag, 20, be 2 number ++ be 1 carrier ++ be 1 program ++ be 1 kind ++ be 1 tier)
  | .dropChannel tag number => some (tag, 21, be 2 number)
  | .abandonEdit tag => some (tag, 22, [])
  | .promote tag minute => some (tag, 23, be 4 minute)
  | .cancelPromote tag => some (tag, 24, [])
  | .readChannel tag generation number => some (tag, 25, be 1 generation ++ be 2 number)
  | .putOffer tag slot event channel price tier opens closes airEnd =>
      some (tag, 26, be 1 slot ++ be 2 event ++ be 2 channel ++ be 2 price ++ be 1 tier
        ++ be 4 opens ++ be 4 closes ++ be 4 airEnd)
  | .withdrawOffer tag slot => some (tag, 27, be 1 slot)
  | .readOffer tag slot => some (tag, 28, be 1 slot)
  | .addElement tag index kind parent group member last =>
      some (tag, 29, be 2 index ++ be 1 kind ++ be 2 parent ++ be 1 group ++ be 1 member
        ++ (match last with | some b => be 1 b | none => []))
  | .removeElement tag index => some (tag, 30, be 2 index)
  | .findElement tag group member => some (tag, 31, be 1 group ++ be 1 member)
  | .readElement tag index => some (tag, 32, be 2 index)
  | .setPollSettings tag timeout missLimit period =>
      some (tag, 33, be 1 timeout ++ be 1 missLimit ++ be 2 period)
  | .setPolling tag index enable => some (tag, 34, be 2 index ++ be 1 enable)
  | .setLevelWindow tag index low high hysteresis =>
      some (tag, 35, be 2 index ++ beSigned low ++ beSigned high ++ be 1 hysteresis)
  | .readPolling tag => some (tag, 36, [])
  | .clearPort tag tap port => some (tag, 37, be 2 tap ++ be 1 port)
  | .readOrder tag position => some (tag, 38, be 1 position)
  | .readDownstream tag => some (tag, 39, [])
  | .readCounters tag => some (tag, 40, [])
  | .setThreshold tag ticks => some (tag, 41, be 1 ticks)
  | .readAccrual tag => some (tag, 42, [])
  | .startPeriod tag days => some (tag, 43, be 1 days)
  | .takeStatement tag slot => some (tag, 44, be 2 slot)
  | .takeNotice tag => some (tag, 45, [])
  | .setAlarmLevel tag level => some (tag, 46, be 1 level)
  | .setSystemCode tag code => some (tag, 47, be 2 code)
  | .setTime tag minute => some (tag, 48, be 4 minute)
  | .readStatus tag => some (tag, 49, [])
  | .restart tag => some (tag, 50, [])
  | .selectPeriod _ _ => none
  | .resetPin => none
  | .restartComplete => none
  | .powerOnReset _ => none
  | .secondTick => none
  | .minuteEvent => none
  | .accrualVisit => none
  | .accrualWalkEnd => none
  | .periodVisit => none
  | .periodWalkEnd => none
  | .propagationVisit => none
  | .rederiveVisit => none
  | .propagationWalkEnd => none
  | .rederiveWalkEnd => none
  | .roundTimerExpiry => none
  | .transmissionEnd => none
  | .pollReply _ _ _ _ _ => none
  | .orderReply _ _ _ _ => none
  | .hold _ _ _ => none
  | .purchase _ _ _ => none
  | .unknownKindFrame _ => none
  | .windowExpiry => none

/-- The request frame that carries a request (R190), none for an event. -/
def Instr.requestFrame (i : Instr) : Option (List Byte) :=
  match i.requestParts with
  | some (tag, code, body) => some (withCheck (be 1 tag ++ be 1 code ++ body))
  | none => none

-- upstream frames (R193, R194)

/-- The content of an upstream frame after its system code (R193). -/
inductive UpFrame where
  | pollReply (group member : Nat) (level : Int) (power : Nat)
  | orderReply (group member : Nat) (results : List (Nat × Nat))
  | hold (group member : Nat)
  | purchase (converter event : Nat)
  deriving DecidableEq, Repr

/-- The results of an ORDER REPLY, two bytes each. -/
def pairsOf : List Byte → List (Nat × Nat)
  | a :: b :: r => (a.toNat, b.toNat) :: pairsOf r
  | _ => []

/-- The frame of a kind byte and a body, where the kind is known, the form is known and the length fits (R194). -/
def upFrameOf (kind : Nat) (body : List Byte) : Option UpFrame :=
  if kind = 0x81 then
    match body with
    | [g, m, l1, l0, p] => some (.pollReply g.toNat m.toNat (signed2 l1 l0) p.toNat)
    | _ => none
  else if kind = 0x82 then
    match body with
    | g :: m :: form :: count :: results =>
      if form.toNat = 0 ∧ results.length = 2 * count.toNat then
        some (.orderReply g.toNat m.toNat (pairsOf results))
      else if form.toNat = 1 ∧ count.toNat = 0 ∧ results = [] then some (.hold g.toNat m.toNat)
      else none
    | _ => none
  else if kind = 0x83 then
    match body with
    | [a, b, c, e1, e0] => some (.purchase (num3 a b c) (num2 e1 e0))
    | _ => none
  else none

/-- Every field holds a value its kind allows (R194). A POLL REPLY level of any value passes. -/
def UpFrame.valid : UpFrame → Bool
  | .pollReply group _ _ power => decide (group ≤ 62) && decide (power ≤ 1)
  | .orderReply group _ results =>
      decide (group ≤ 62) && decide (results.length ≤ 8)
        && results.all (fun r => decide (r.1 ≤ 7) && decide (r.2 ≤ 1))
  | .hold group _ => decide (group ≤ 62)
  | .purchase converter event => decide (converter ≠ 0) && decide (event ≠ 0)

/-- The kind byte and the body of an upstream frame (R193). -/
def UpFrame.body : UpFrame → List Byte
  | .pollReply group member level power =>
      be 1 0x81 ++ be 1 group ++ be 1 member ++ beSigned level ++ be 1 power
  | .orderReply group member results =>
      be 1 0x82 ++ be 1 group ++ be 1 member ++ be 1 0 ++ be 1 results.length
        ++ results.flatMap (fun r => be 1 r.1 ++ be 1 r.2)
  | .hold group member => be 1 0x82 ++ be 1 group ++ be 1 member ++ be 1 1 ++ be 1 0
  | .purchase converter event => be 1 0x83 ++ be 3 converter ++ be 2 event

/-- The bytes of an upstream frame from a sender of the system code (R193). -/
def UpFrame.bytes (system : Nat) (f : UpFrame) : List Byte := withCheck (be 2 system ++ f.body)

/-- What the bytes of an upstream frame parse to: a wrong check sequence, or a system code (none where the frame is too
short to hold one) with the frame where its kind, form and length are known (R128, R194; short frames DEDUCED: entry 13). -/
def parseUpstream (bs : List Byte) : Option (Option Nat × Option UpFrame) :=
  match checkedContent bs with
  | none => none
  | some content =>
    match content with
    | s1 :: s0 :: kind :: body => some (some (num2 s1 s0), upFrameOf kind.toNat body)
    | [s1, s0] => some (some (num2 s1 s0), none)
    | _ => some (none, none)

-- the table's words

/-- The command a word spells by the bits of the table of operations: no row of that table gives bits, so none. -/
def decodeTableWord (_nbits _w : Nat) : Option Instr := none

end Sys2Proof
end

