-- ==== Sys2Proof/Config.lean ====
section
/-! DEFINITION. What the part fixes: the sizes of its tables and queues and the limits of its numbers.
The spec gives every one of them; no value of the spec is left free, so there is no opaque constant here. -/

namespace Sys2Proof.Config

/-- Subscriber slots 0 to 4,095 (01_the_subscriber_table.md). -/
@[simp] abbrev slots : Nat := 4096
/-- Element Table entries 0 to 1,023 (R54). -/
@[simp] abbrev elements : Nat := 1024
/-- Tiers 0 to 31 (R30). -/
@[simp] abbrev tiers : Nat := 32
/-- Channels of one generation (R36). -/
@[simp] abbrev channels : Nat := 120
/-- Offer Table slots 0 to 15 (R48). -/
@[simp] abbrev offers : Nat := 16
/-- Entries of the Propagation Queue (R65). -/
@[simp] abbrev propagationQueue : Nat := 16
/-- Orders of the Order Queue (R92). -/
@[simp] abbrev orders : Nat := 64
/-- Port actions of one ORDER frame (R97). -/
@[simp] abbrev frameActions : Nat := 4
/-- Entries of the Expedite List (R119). -/
@[simp] abbrev expedite : Nat := 32
/-- Notices of the Notice Queue (R170). -/
@[simp] abbrev notices : Nat := 64
/-- Events of one purchase list (R3). -/
@[simp] abbrev purchases : Nat := 4
/-- The largest value of a 16-bit counter, count or amount of cents (R1, R3, R134). -/
@[simp] abbrev max16 : Nat := 65535
/-- The largest value of an 8-bit count (R3, R164, R170). -/
@[simp] abbrev max8 : Nat := 255
/-- The largest minute number (R182) and statement sum (R164). -/
@[simp] abbrev max32 : Nat := 4294967295
/-- The largest service accumulator and held amount, 2^48 - 1 (R152). -/
@[simp] abbrev max48 : Nat := 281474976710655
/-- Fine units of one cent, 2^24 (00_scope.md, Money). -/
@[simp] abbrev fineUnits : Nat := 16777216
/-- Half a cent in fine units (R164). -/
@[simp] abbrev halfCent : Nat := 8388608
/-- Accrual ticks of one day (00_scope.md, Time). -/
@[simp] abbrev ticksPerDay : Nat := 96
/-- Minutes between two tick minutes (R183). -/
@[simp] abbrev tickMinutes : Nat := 15
/-- The most windows orders take while a poll is due (R112). -/
@[simp] abbrev orderRun : Nat := 4
/-- The map gap at which a map frame is due (R113). -/
@[simp] abbrev mapGap : Nat := 7
/-- The HOLD count at which a further HOLD closes the window (R99). -/
@[simp] abbrev holds : Nat := 3
/-- The attempts at which an order is given up (R104). -/
@[simp] abbrev attempts : Nat := 3
/-- The Reply Window timer of an ORDER frame, in ms (R98). -/
@[simp] abbrev orderTimer : Nat := 250

end Sys2Proof.Config
end

