-- ==== Sys2Proof/Machine/Table.lean ====
section
/-! DEFINITION. A table of the part: entries under numbers, held as a list of pairs with the numbers
strictly rising. A number that is not listed is the empty entry the spec gives that table (a VACANT slot,
an undefined tier, an empty element entry, an empty offer slot). -/

namespace Sys2Proof.Machine

/-- A table's listed entries. -/
structure Table (α : Type) where
  entries : List (Nat × α)
  deriving DecidableEq, Repr

/-- The first entry of a list of pairs under the number k. -/
def lookupIn {α : Type} (k : Nat) : List (Nat × α) → Option α
  | [] => none
  | (j, v) :: r => if j = k then some v else lookupIn k r

/-- The list with v put under k, in the place of its number. -/
def insertIn {α : Type} (k : Nat) (v : α) : List (Nat × α) → List (Nat × α)
  | [] => [(k, v)]
  | (j, w) :: r =>
    if k < j then (k, v) :: (j, w) :: r
    else if k = j then (k, v) :: r
    else (j, w) :: insertIn k v r

/-- The numbers of the list are strictly rising, the first above the bound. -/
def risingFrom {α : Type} : Option Nat → List (Nat × α) → Bool
  | _, [] => true
  | none, (j, _) :: r => risingFrom (some j) r
  | some b, (j, _) :: r => decide (b < j) && risingFrom (some j) r

/-- The table with no entry listed. -/
def Table.empty {α : Type} : Table α := ⟨[]⟩

/-- The entry under a number, or none where the number is not listed. -/
def Table.get? {α : Type} (t : Table α) (k : Nat) : Option α := lookupIn k t.entries

/-- Put an entry under a number, in place of the one that stood there. -/
def Table.set {α : Type} (t : Table α) (k : Nat) (v : α) : Table α := ⟨insertIn k v t.entries⟩

/-- Empty the entry under a number. -/
def Table.erase {α : Type} (t : Table α) (k : Nat) : Table α := ⟨t.entries.filter (fun p => p.1 != k)⟩

/-- Rewrite every listed entry, each under its own number. -/
def Table.map {α : Type} (t : Table α) (f : Nat → α → α) : Table α :=
  ⟨t.entries.map (fun p => (p.1, f p.1 p.2))⟩

/-- Keep the listed entries that satisfy a test. -/
def Table.keep {α : Type} (t : Table α) (f : Nat → α → Bool) : Table α :=
  ⟨t.entries.filter (fun p => f p.1 p.2)⟩

/-- Rewrite the entry under one number, if it is listed. -/
def Table.modify {α : Type} (t : Table α) (k : Nat) (f : α → α) : Table α :=
  match t.get? k with
  | some v => t.set k (f v)
  | none => t

/-- The first listed entry, in rising order of number, that satisfies a test. -/
def Table.find? {α : Type} (t : Table α) (f : Nat → α → Bool) : Option (Nat × α) :=
  t.entries.find? (fun p => f p.1 p.2)

/-- How many entries are listed. -/
def Table.size {α : Type} (t : Table α) : Nat := t.entries.length

/-- The lowest number from k on, over `fuel` numbers, that is not listed. -/
def Table.firstFree {α : Type} (t : Table α) : Nat → Nat → Option Nat
  | 0, _ => none
  | fuel + 1, k => if (t.get? k).isSome then t.firstFree fuel (k + 1) else some k

/-- The canonical form of a table: its numbers strictly rising. -/
def Table.wf {α : Type} (t : Table α) : Bool := risingFrom none t.entries

end Sys2Proof.Machine
end

