-- ==== Sys2Proof/Machine/State.lean ====
section
/-! DEFINITION. The state of the part: every block's state as the spec names it, the queue of waiting commands, the
outcome reasons, and the state after power-on reset. -/

namespace Sys2Proof.Machine

-- the Subscriber Table (R3 to R6)

/-- The service state of a non-vacant record (R8). -/
inductive ServiceState where
  | prepared
  | active
  | suspended
  | disconnected
  deriving DecidableEq, Repr

/-- A tap port as a record names it (R3). -/
structure PortRef where
  tap : Nat
  port : Nat
  deriving DecidableEq, Repr

/-- The statement of a record: closed-period figures awaiting TAKE STATEMENT (R164). -/
structure Statement where
  service : Nat
  purchases : Nat
  purchaseCount : Nat
  charged : Nat
  credited : Nat
  merged : Nat
  closing : Nat
  deriving DecidableEq, Repr

/-- A subscriber record (R3). A VACANT slot holds none. -/
structure Subscriber where
  state : ServiceState
  account : Nat
  converter : Option Nat
  port : Option PortRef
  tiers : TierSet
  ceiling : Nat
  purchases : List Nat
  purchaseTotal : Nat
  purchaseCount : Nat
  periodTag : Nat
  weight : Nat
  accumulator : Nat
  saturated : Bool
  held : Nat
  spell : Nat
  charged : Nat
  credited : Nat
  statement : Option Statement
  deriving DecidableEq, Repr

/-- The slots with their records, the Account Index and the Converter Index (R3, R5, R6). -/
structure SubscriberTable where
  slots : Table Subscriber
  accounts : Table Nat
  converters : Table Nat
  deriving DecidableEq, Repr

-- the Tier and Line-up Unit (R30, R36, R37, R48)

/-- A defined entry of the Tier Table (R30). An undefined entry is not listed; every field of it is zero. -/
structure Tier where
  currentRate : Nat
  nextRate : Nat
  currentQ : Nat
  previousQ : Nat
  holders : Nat
  deriving DecidableEq, Repr

/-- The kind of a channel (R36). -/
inductive ChannelKind where
  | clear
  | scrambled
  | impulse
  deriving DecidableEq, Repr

/-- A channel record but for its number, under which it is listed (R36). -/
structure Channel where
  carrier : Nat
  program : Nat
  kind : ChannelKind
  tier : Nat
  deriving DecidableEq, Repr

/-- A line-up generation: its number, and its channels under their channel numbers (R36). -/
structure Generation where
  number : Nat
  channels : Table Channel
  deriving DecidableEq, Repr

/-- The editor with NEXT, which exists while it is EDITING or SCHEDULED, and the switchover minute (R36, R37). -/
inductive Editor where
  | idle
  | editing (next : Generation)
  | scheduled (next : Generation) (minute : Nat)
  deriving DecidableEq, Repr

/-- An offer of the Offer Table (R48). -/
structure Offer where
  event : Nat
  channel : Nat
  price : Nat
  tier : Nat
  opens : Nat
  closes : Nat
  airEnd : Nat
  deriving DecidableEq, Repr

/-- The Tier Table, CURRENT, the editor with NEXT, and the Offer Table. -/
structure LineUp where
  tiers : Table Tier
  current : Generation
  editor : Editor
  offers : Table Offer
  deriving DecidableEq, Repr

-- the Plant Tree and the poll fields of an element (R54 to R58, R65 to R71)

/-- A setting as an order asks for it (R93). -/
inductive Setting where
  | off
  | limited
  | full
  deriving DecidableEq, Repr

/-- The confirmed setting of a tap port (R58). -/
inductive Confirmed where
  | off
  | limited
  | full
  | unknown
  | fault
  deriving DecidableEq, Repr

/-- A port record of a tap (R58). -/
structure PortRecord where
  confirmed : Confirmed
  link : Option Nat
  deriving DecidableEq, Repr

/-- The poll state of a node or amplifier (R76). -/
inductive PollState where
  | off
  | unverified
  | up
  | failed
  | shadowed
  deriving DecidableEq, Repr

/-- The level state of an element (R88). -/
inductive LevelState where
  | normal
  | low
  | high
  deriving DecidableEq, Repr

/-- The power state of an element (R90). -/
inductive PowerState where
  | mains
  | standby
  | unknown
  deriving DecidableEq, Repr

/-- The fields of a node or amplifier that the Poll Engine owns (R55). -/
structure PollRecord where
  enable : Bool
  state : PollState
  misses : Nat
  low : Int
  high : Int
  hysteresis : Nat
  levelState : LevelState
  lastLevel : Int
  power : PowerState
  deriving DecidableEq, Repr

/-- What an element is, with the fields only that kind has (R55). -/
inductive Role where
  | node (poll : PollRecord)
  | amplifier (poll : PollRecord)
  | tap (ports : List PortRecord)
  deriving DecidableEq, Repr

/-- The reason of a restore (R64). -/
inductive RestoreReason where
  | answer
  | withdrawn
  deriving DecidableEq, Repr

/-- The notice-owed mark (R55, R64). -/
inductive Mark where
  | none
  | outage
  | restored (reason : RestoreReason)
  deriving DecidableEq, Repr

/-- An element of the Element Table (R55). -/
structure Element where
  role : Role
  parent : Nat
  firstChild : Option Nat
  nextSibling : Option Nat
  group : Nat
  member : Nat
  dark : Bool
  shadow : Bool
  mark : Mark
  failMinute : Nat
  deriving DecidableEq, Repr

/-- A mark a walk has taken and not yet paid, with the homes it has counted for it (R68, R71). -/
structure Owing where
  element : Nat
  mark : Mark
  failMinute : Nat
  darkened : Nat
  relit : Nat
  deriving DecidableEq, Repr

/-- The walk of the Plant Tree (R66). A propagation walk holds its element with what it has taken from it, and the last
element it visited; a re-derive walk the last element it visited (the root before the first) and the elements that owe
a notice and whose subtree it has not finished, innermost first (R71). -/
inductive PlantWalk where
  | idle
  | propagation (own : Owing) (last : Option Nat)
  | rederive (last : Nat) (owing : List Owing)
  deriving DecidableEq, Repr

/-- The Plant Tree: the root's first child, entries 1 to 1,023, the Propagation Queue, the re-derive flag, the walk. -/
structure PlantTree where
  rootFirst : Option Nat
  elements : Table Element
  queue : List Nat
  rederive : Bool
  walk : PlantWalk
  deriving DecidableEq, Repr

-- the Poll Engine (R73, R77, R78, R81)

/-- The poll in flight (R81). -/
structure PollFlight where
  element : Nat
  opened : Bool
  void : Bool
  deriving DecidableEq, Repr

/-- Settings, Verify List, round record and the poll in flight. -/
structure PollEngine where
  timeout : Nat
  missLimit : Nat
  roundPeriod : Nat
  verify : List Nat
  position : Nat
  expired : Bool
  periodInForce : Nat
  flight : Option PollFlight
  deriving DecidableEq, Repr

-- the Order Engine (R92, R93, R98)

/-- The state of an order (R92). -/
inductive OrderState where
  | queued
  | held
  | sent
  deriving DecidableEq, Repr

/-- An order of the Order Queue (R93). -/
structure Order where
  tap : Nat
  port : Nat
  setting : Setting
  state : OrderState
  attempts : Nat
  origin : Option Nat
  followOn : Option Setting
  deriving DecidableEq, Repr

/-- The frame in flight: its tap, the ports of its orders in frame order (an order is one port, R97), whether its window
has opened, its HOLD count (R98). -/
structure OrderFlight where
  tap : Nat
  ports : List Nat
  opened : Bool
  holds : Nat
  deriving DecidableEq, Repr

/-- The Order Queue, head first, and the frame in flight. -/
structure OrderEngine where
  queue : List Order
  flight : Option OrderFlight
  deriving DecidableEq, Repr

-- the Downstream Scheduler (R110 to R124)

/-- The streams of the arbiter (R110). -/
inductive Stream where
  | order
  | poll
  | map
  | expedite
  | carousel
  deriving DecidableEq, Repr

/-- The reason of a DECLINE (R119, R135). -/
inductive DeclineReason where
  | notActive
  | noOffer
  | window
  | tier
  | listFull
  | ceiling
  deriving DecidableEq, Repr

/-- A downstream frame as composed at its grant, with what it carries (R110, R116, R124, R192). -/
inductive DownFrame where
  | auth (slot address : Nat) (enabled : Bool) (generation : Nat) (tiers : TierSet) (purchases : List Nat)
  | disable (address : Nat)
  | decline (slot address event : Nat) (reason : DeclineReason)
  | mapCurrent (generation number : Nat) (channel : Channel)
  | mapNext (generation number : Nat) (channel : Channel) (minute : Nat)
  | time (minute : Nat) (clockSet : Bool) (generation : Nat)
  | poll (element group member : Nat)
  | order (tap group member : Nat) (actions : List (Nat × Setting))
  deriving DecidableEq, Repr

/-- The frame in transmission: the stream it was granted to and the frame (R110). -/
structure Transmission where
  stream : Stream
  frame : DownFrame
  deriving DecidableEq, Repr

/-- An entry of the Expedite List (R119). -/
inductive ExpediteEntry where
  | refresh (slot : Nat)
  | disable (address : Nat)
  | decline (slot event : Nat) (reason : DeclineReason)
  deriving DecidableEq, Repr

/-- The phase of the map cursor (R124). -/
inductive MapPhase where
  | time
  | current
  | next
  deriving DecidableEq, Repr

/-- Frame in transmission, arbiter counts, carousel, map cursor, Expedite List, EXPEDITE DROPS. -/
structure Downstream where
  transmission : Option Transmission
  orderRun : Nat
  mapGap : Nat
  cursor : Nat
  passes : Nat
  phase : MapPhase
  lastChannel : Option Nat
  expedite : List ExpediteEntry
  drops : Nat
  deriving DecidableEq, Repr

-- what an input is taking in (R129, R140, R179)

/-- What an input of the part is taking in, a frame on the upstream input or a select period on the Management Port:
nothing; one of them; or the rest of one that a restart has abandoned, or that began while a restart was in progress. -/
inductive Reception where
  | idle
  | taking
  | abandoned
  deriving DecidableEq, Repr

-- the Upstream Receiver (R130, R134)

/-- The kind of a window's owner and of a late mark (R130). -/
inductive WindowKind where
  | poll
  | order
  deriving DecidableEq, Repr

/-- An OPEN Reply Window: owner, address, and the length in ms its timer last started from (R130). -/
structure ReplyWindow where
  kind : WindowKind
  element : Nat
  group : Nat
  member : Nat
  timer : Nat
  deriving DecidableEq, Repr

/-- The late mark (R130). -/
structure LateMark where
  kind : WindowKind
  group : Nat
  member : Nat
  deriving DecidableEq, Repr

/-- The six discard counters (R134). -/
structure Counters where
  badCheck : Nat
  wrongSystem : Nat
  malformed : Nat
  late : Nat
  unmatched : Nat
  unknownConverter : Nat
  deriving DecidableEq, Repr

/-- The Reply Window (none while CLOSED), the late mark, the counters and the frame being taken in. -/
structure Upstream where
  window : Option ReplyWindow
  late : Option LateMark
  counters : Counters
  reception : Reception
  deriving DecidableEq, Repr

-- the Accrual Engine (R144)

/-- The walk running (R144): an accrual walk with its tick minute; a period walk with the previous threshold and whether
it is closing records, which exist exactly while it runs, and its counts for PERIOD DONE (R166). -/
inductive AccrualWalk where
  | none
  | accrual (tick : Nat)
  | period (previous : Nat) (closing : Bool) (closed merged : Nat)
  deriving DecidableEq, Repr

/-- Period state and length (OPEN exactly when a length is present), sequence, thresholds, walk, position, the P of the
pending START PERIOD (pending exactly when present), pending tick. -/
structure Accrual where
  length : Option Nat
  sequence : Nat
  threshold : Nat
  staged : Nat
  walk : AccrualWalk
  position : Nat
  pendingPeriod : Option Nat
  pendingTick : Option Nat
  deriving DecidableEq, Repr

-- the Notice Queue (R170, R171)

/-- The priority of a notice, and the alarm level (R171, R175). -/
inductive Priority where
  | urgent
  | routine
  | info
  deriving DecidableEq, Repr

/-- The reason of an ORDER FAILED (R105). -/
inductive OrderFailure where
  | portFault
  | noAnswer
  deriving DecidableEq, Repr

/-- The trigger that began a restart (R177, R186). -/
inductive RestartCause where
  | resetPin
  | request
  deriving DecidableEq, Repr

/-- The kind of a notice with the kind's own values (R171). A LOST TICK with a first slot not visited has the cause
RESTART, one without has the cause PENDING. -/
inductive NoticeBody where
  | outage (homes failMinute : Nat)
  | restored (homes duration : Nat) (reason : RestoreReason)
  | power (now before : PowerState)
  | restarted (cause : RestartCause) (discarded : Nat)
  | level (state : LevelState) (level low high : Int)
  | orderFailed (reason : OrderFailure) (tap port : Nat) (setting : Setting) (origin : Option Nat)
      (written : Confirmed)
  | disableLost
  | saturated (periodTag tick : Nat)
  | periodDone (sequence days closed merged : Nat)
  | switchoverDone (generation : Nat)
  | lostTick (tick : Nat) (firstSlot : Option Nat)
  deriving DecidableEq, Repr

/-- The family within which notices coalesce (R171). -/
inductive NoticeFamily where
  | outageRestored
  | power
  | restarted
  | level
  | orderFailed
  | disableLost
  | saturated
  | periodDone
  | switchoverDone
  | lostTick
  deriving DecidableEq, Repr

/-- The subject of a notice (R170, R171). -/
inductive Subject where
  | none
  | element (index : Nat)
  | slot (slot : Nat)
  | converter (address : Nat)
  | tapPort (tap port : Nat)
  deriving DecidableEq, Repr

/-- A held notice (R170). -/
structure Notice where
  body : NoticeBody
  subject : Subject
  first : Nat
  last : Nat
  count : Nat
  deriving DecidableEq, Repr

/-- The held notices in order of entry, the lost-notice count, the alarm level. -/
structure NoticeQueue where
  held : List Notice
  lost : Nat
  level : Priority
  deriving DecidableEq, Repr

-- the Minute Clock and the identity (R182, R185)

/-- The Minute Clock (R182). -/
structure Clock where
  minute : Nat
  seconds : Nat
  isSet : Bool
  lastTick : Option Nat
  deriving DecidableEq, Repr

/-- The downstream bit rate (00_scope.md, Interfaces and pins). -/
inductive Rate where
  | bps16000
  | bps32000
  | bps64000
  deriving DecidableEq, Repr

-- the Management Port (R178, R190)

/-- The status codes (00_scope.md, Status codes). -/
inductive Status where
  | ok
  | accepted
  | busy
  | badRequest
  | range
  | vacant
  | exists
  | state
  | full
  | locked
  | unset
  | invalid
  | referenced
  deriving DecidableEq, Repr

/-- The reasons of a response (R190). -/
inductive Reason where
  | tier
  | tap
  | port
  | charges
  | statement
  | empty
  | lead
  | carrier
  | offer
  | times
  | holders
  | channel
  | parent
  | children
  | order
  | kind
  | window
  | length
  | check
  | code
  deriving DecidableEq, Repr

/-- CURRENT or NEXT (R188). -/
inductive GenerationName where
  | current
  | next
  deriving DecidableEq, Repr

/-- The kind of an element as a request names it and a response returns it (R188). -/
inductive ElementKind where
  | node
  | amplifier
  | tap
  | root
  deriving DecidableEq, Repr

/-- The subject of the frame in transmission (R110); the generation of a MAP frame as CURRENT or NEXT (DESIGN CHOICE, unsafe:
entry 31). -/
inductive FrameSubject where
  | auth (slot : Nat)
  | disable (address : Nat)
  | decline (slot event : Nat)
  | map (generation : GenerationName) (number : Nat)
  | time
  | poll (element : Nat)
  | order (tap : Nat)
  deriving DecidableEq, Repr

/-- The walk of the Accrual Engine in brief (R187). -/
inductive WalkName where
  | none
  | accrual
  | period
  deriving DecidableEq, Repr

/-- The editor's state alone (R37). -/
inductive EditorName where
  | idle
  | editing
  | scheduled
  deriving DecidableEq, Repr

/-- What READ POLLING returns (R75): the settings, the round record, whether a poll is due, the Verify List's length and
head, the poll in flight. -/
structure PollingView where
  timeout : Nat
  missLimit : Nat
  roundPeriod : Nat
  position : Nat
  periodInForce : Nat
  expired : Bool
  due : Bool
  verifyCount : Nat
  verifyHead : Option Nat
  flight : Option PollFlight
  deriving DecidableEq, Repr

/-- What READ ORDER returns (R107): the order, its tap's group and member, the count of orders, and for a SENT order the
HOLD count and whether the window has opened. -/
structure OrderView where
  order : Order
  group : Nat
  member : Nat
  count : Nat
  sent : Option (Nat × Bool)
  deriving DecidableEq, Repr

/-- What READ DOWNSTREAM returns (R126). -/
structure DownstreamView where
  silent : Bool
  frame : Option (Stream × FrameSubject)
  windowFree : Bool
  orderRun : Nat
  mapGap : Nat
  cursor : Nat
  passes : Nat
  phase : MapPhase
  lastChannel : Option Nat
  expedite : List ExpediteEntry
  deriving DecidableEq, Repr

/-- What READ ACCRUAL returns (R157). -/
structure AccrualView where
  length : Option Nat
  sequence : Nat
  threshold : Nat
  staged : Nat
  previous : Option Nat
  walk : WalkName
  position : Nat
  tick : Option Nat
  pendingPeriod : Option Nat
  closing : Bool
  pendingTick : Option Nat
  deriving DecidableEq, Repr

/-- What READ STATUS returns (R187). -/
structure StatusView where
  minute : Nat
  seconds : Nat
  clockSet : Bool
  lastTick : Option Nat
  systemCode : Option Nat
  periodOpen : Bool
  sequence : Nat
  walk : WalkName
  periodPending : Bool
  tickPending : Bool
  editor : EditorName
  current : Nat
  next : Option Nat
  switchover : Option Nat
  plantWalk : Bool
  rederive : Bool
  subscribers : Nat
  orders : Nat
  notices : Nat
  lost : Nat
  alarm : Bool
  level : Priority
  deriving DecidableEq, Repr

/-- The values of a response, one shape for each kind of answer a rule gives. -/
inductive Values where
  | none
  /-- a subscriber slot: ADD SUBSCRIBER, CLEAR PORT refused PORT -/
  | slot (n : Nat)
  /-- an offer slot: PUT OFFER, UNDEFINE TIER refused OFFER -/
  | offerSlot (n : Nat)
  /-- the tier list after GRANT TIERS or REVOKE TIERS -/
  | tiers (m : TierSet)
  /-- FIND SUBSCRIBER: the slot and the record's state -/
  | found (slot : Nat) (state : ServiceState)
  /-- READ SUBSCRIBER: the record, and with a port its confirmed setting and its tap's dark flag -/
  | subscriber (r : Subscriber) (view : Option (Confirmed × Bool))
  /-- DEFINE TIER and READ TIER: the entry, none where undefined -/
  | tier (t : Option Tier)
  /-- SET TIER RATE: the current and the next rate -/
  | rates (current next : Nat)
  /-- UNDEFINE TIER refused HOLDERS: the count -/
  | holders (n : Nat)
  /-- UNDEFINE TIER refused CHANNEL: the generation and the channel number -/
  | channelOf (generation : GenerationName) (number : Nat)
  /-- BEGIN EDIT: NEXT's generation number and channel count -/
  | begun (generation count : Nat)
  /-- PUT CHANNEL and DROP CHANNEL: NEXT's channel count -/
  | channelCount (n : Nat)
  /-- PROMOTE: NEXT's generation number and the switchover minute -/
  | scheduled (generation minute : Nat)
  /-- PROMOTE refused LEAD: the present minute -/
  | present (minute : Nat)
  /-- PROMOTE refused TIER: a channel number -/
  | channelNumber (n : Nat)
  /-- PROMOTE refused CARRIER: the lower and the higher channel number -/
  | channelPair (lower higher : Nat)
  /-- PROMOTE refused OFFER: the offer slot, its event code and its channel -/
  | offerOn (slot event channel : Nat)
  /-- READ CHANNEL: the record, the generation's number and channel count, the switchover minute of a scheduled NEXT -/
  | channel (number : Nat) (c : Channel) (generation count : Nat) (minute : Option Nat)
  /-- WITHDRAW OFFER: the event code -/
  | event (n : Nat)
  /-- READ OFFER -/
  | offer (o : Offer)
  /-- ADD ELEMENT: the index, the dark flag and, for a node or amplifier, the poll state -/
  | added (index : Nat) (dark : Bool) (state : Option PollState)
  /-- REMOVE ELEMENT refused CHILDREN: an element index -/
  | element (n : Nat)
  /-- REMOVE ELEMENT refused PORT: a port number -/
  | port (n : Nat)
  /-- FIND ELEMENT -/
  | elementAt (index : Nat) (kind : ElementKind)
  /-- READ ELEMENT of the root: its first child -/
  | root (firstChild : Option Nat)
  /-- READ ELEMENT of another entry -/
  | elementCopy (e : Element)
  /-- SET POLL SETTINGS -/
  | pollSettings (timeout missLimit period : Nat)
  /-- SET POLLING: a poll state -/
  | pollState (p : PollState)
  /-- SET LEVEL WINDOW: the window, the level state, the last level -/
  | levelWindow (low high : Int) (hysteresis : Nat) (state : LevelState) (last : Int)
  | polling (v : PollingView)
  /-- CLEAR PORT: the order's state and position -/
  | orderAt (state : OrderState) (position : Nat)
  | order (v : OrderView)
  | downstream (v : DownstreamView)
  /-- READ COUNTERS: the six counters, EXPEDITE DROPS, the window, the late mark -/
  | counters (c : Counters) (drops : Nat) (window : Option ReplyWindow) (late : Option LateMark)
  /-- SET THRESHOLD: in force and staged -/
  | thresholds (inForce staged : Nat)
  | accrual (v : AccrualView)
  /-- START PERIOD: the new sequence, P, and whether the walk has begun -/
  | period (sequence days : Nat) (begun : Bool)
  /-- TAKE STATEMENT: the statement and the record's account -/
  | statement (st : Statement) (account : Nat)
  /-- TAKE NOTICE: the notice, the notices still held, the lost-notice count -/
  | notice (n : Notice) (held lost : Nat)
  /-- TAKE NOTICE refused VACANT: the lost-notice count -/
  | lost (n : Nat)
  /-- SET ALARM LEVEL: the level before and after, the ALARM line -/
  | alarm (before after : Priority) (line : Bool)
  /-- SET SYSTEM CODE: the code -/
  | systemCode (n : Nat)
  /-- SET TIME: the minute number and the clock-set flag -/
  | time (minute : Nat) (isSet : Bool)
  | status (v : StatusView)
  deriving DecidableEq, Repr

/-- A held response (R178). `startsRestart` marks the OK of a RESTART, whose reading begins the restart (R186). -/
structure Response where
  tag : Nat
  status : Status
  reason : Option Reason
  values : Values
  overrun : Bool
  startsRestart : Bool
  deriving DecidableEq, Repr

-- the whole state

/-- The state of the part, and the queue of the commands that are waiting, first in first out. `select` is the select
period the Management Port is taking in (R179), and `pinHeld` the level of the RESET pin (R186). -/
structure State where
  response : Option Response
  select : Reception
  clock : Clock
  systemCode : Option Nat
  rate : Rate
  restarting : Bool
  pinHeld : Bool
  subs : SubscriberTable
  lineUp : LineUp
  plant : PlantTree
  poll : PollEngine
  orders : OrderEngine
  down : Downstream
  up : Upstream
  accrual : Accrual
  notices : NoticeQueue
  pending : List Instr
  deriving DecidableEq, Repr

/-- Reasons to stop with a fault. The spec names no fault that stops the part, so there is none, and no meaning raises
one. -/
inductive Fault where
  deriving DecidableEq, Repr

/-- Reasons a command is refused by the model. -/
inductive Refusal where
  /-- Raised only by exec's arm of a command that has no meaning yet (there is none); safe, the model stops where the
  part goes on. -/
  | notModelled (mnemonic : String)
  deriving DecidableEq, Repr

/-- The discard counters at 0 (R140). -/
def Counters.zero : Counters := ⟨0, 0, 0, 0, 0, 0⟩

/-- The state after power-on reset: R4, R30, R36, R37, R48, R72, R91, R109, R127, R140, R144, R177, R178, R182, R185. The
bit rate is that of strap value 0 (DESIGN CHOICE, unsafe: entry 5) and the RESET pin is released (DESIGN CHOICE, unsafe:
entry 11); the queue of commands is the model's own and empty. -/
def State.reset : State where
  response := none
  select := .idle
  clock := { minute := 0, seconds := 0, isSet := false, lastTick := none }
  systemCode := none
  rate := .bps16000
  restarting := false
  pinHeld := false
  subs := { slots := .empty, accounts := .empty, converters := .empty }
  lineUp := { tiers := .empty, current := { number := 0, channels := .empty }, editor := .idle, offers := .empty }
  plant := { rootFirst := none, elements := .empty, queue := [], rederive := false, walk := .idle }
  poll := { timeout := 1, missLimit := 3, roundPeriod := 60, verify := [], position := 1, expired := false,
            periodInForce := 60, flight := none }
  orders := { queue := [], flight := none }
  down := { transmission := none, orderRun := 0, mapGap := 0, cursor := 0, passes := 0, phase := .time,
            lastChannel := none, expedite := [], drops := 0 }
  up := { window := none, late := none, counters := .zero, reception := .idle }
  accrual := { length := none, sequence := 0, threshold := 16, staged := 16, walk := .none, position := 0,
               pendingPeriod := none, pendingTick := none }
  notices := { held := [], lost := 0, level := .routine }
  pending := []

end Sys2Proof.Machine
end

