-- ==== Sys2Proof/Machine/Flags.lean ====
section
/-! DEFINITION. What follows from the state at the moment it is read: the two output lines, darkness, confirmed settings,
eligibility, live offers, the arbiter's conditions. None of it is stored. -/

namespace Sys2Proof.Machine

-- notices and the two lines

/-- The priority a notice's kind fixes (R171). -/
def NoticeBody.priority : NoticeBody → Priority
  | .outage _ _ => .urgent
  | .restored _ _ _ => .urgent
  | .power _ _ => .urgent
  | .restarted _ _ => .urgent
  | .level _ _ _ _ => .routine
  | .orderFailed _ _ _ _ _ _ => .routine
  | .disableLost => .routine
  | .saturated _ _ => .routine
  | .periodDone _ _ _ _ => .info
  | .switchoverDone _ => .info
  | .lostTick _ _ => .info

/-- The family a notice's kind fixes (R171). -/
def NoticeBody.family : NoticeBody → NoticeFamily
  | .outage _ _ => .outageRestored
  | .restored _ _ _ => .outageRestored
  | .power _ _ => .power
  | .restarted _ _ => .restarted
  | .level _ _ _ _ => .level
  | .orderFailed _ _ _ _ _ _ => .orderFailed
  | .disableLost => .disableLost
  | .saturated _ _ => .saturated
  | .periodDone _ _ _ _ => .periodDone
  | .switchoverDone _ => .switchoverDone
  | .lostTick _ _ => .lostTick

/-- URGENT is above ROUTINE, ROUTINE above INFO (R176). -/
def Priority.rank : Priority → Nat
  | .urgent => 2
  | .routine => 1
  | .info => 0

/-- The ALARM line: a held notice is at or above the alarm level (R176). -/
def NoticeQueue.alarm (q : NoticeQueue) : Bool :=
  q.held.any (fun n => decide (q.level.rank ≤ n.body.priority.rank))

/-- The ALARM line of the part (R176). -/
def State.alarm (s : State) : Bool := s.notices.alarm

/-- The READY line: a response is held (R178). -/
def State.ready (s : State) : Bool := s.response.isSome

-- subscribers

/-- The record of a slot, none where it is VACANT (R4). -/
def State.slot? (s : State) (n : Nat) : Option Subscriber := s.subs.slots.get? n

/-- The setting a service state demands at its port (R8). -/
def ServiceState.demands : ServiceState → Setting
  | .prepared => .off
  | .active => .full
  | .suspended => .limited
  | .disconnected => .off

/-- The lowest non-vacant slot at or above a number (R115, R147, R162). -/
def State.nextSlot (s : State) (from_ : Nat) : Option (Nat × Subscriber) :=
  s.subs.slots.find? (fun k _ => decide (from_ ≤ k))

/-- The event is that of a live offer (R48). -/
def State.isLive (s : State) (event : Nat) : Bool :=
  (s.lineUp.offers.find? (fun _ o => o.event == event)).isSome

-- the plant

/-- The poll fields of a node or amplifier, none of a tap (R55). -/
def Role.poll? : Role → Option PollRecord
  | .node p => some p
  | .amplifier p => some p
  | .tap _ => none

/-- The port records of a tap, none of another element (R58). -/
def Role.ports : Role → List PortRecord
  | .node _ => []
  | .amplifier _ => []
  | .tap ports => ports

/-- The kind of an element (R55). -/
def Role.kind : Role → ElementKind
  | .node _ => .node
  | .amplifier _ => .amplifier
  | .tap _ => .tap

/-- The entry of an index from 1 to 1,023, none where it is empty (R54). -/
def State.element? (s : State) (i : Nat) : Option Element := s.plant.elements.get? i

/-- The poll state of a node or amplifier (R76). -/
def State.pollState? (s : State) (i : Nat) : Option PollState :=
  match s.element? i with
  | some e => e.role.poll?.map (fun p => p.state)
  | none => none

/-- The dark flag of an element; the root's is always clear (R54). -/
def PlantTree.dark (t : PlantTree) (i : Nat) : Bool :=
  if i = 0 then false
  else match t.elements.get? i with
    | some e => e.dark
    | none => false

/-- The port record of a tap port, none where the element is no tap or has no such port (R58). -/
def State.port? (s : State) (tap port : Nat) : Option PortRecord :=
  match s.element? tap with
  | some e => e.role.ports[port]?
  | none => none

/-- The confirmed setting of a tap port (R58). -/
def State.confirmed? (s : State) (p : PortRef) : Option Confirmed :=
  (s.port? p.tap p.port).map (fun r => r.confirmed)

/-- The setting an ACK of an order confirms (R100). -/
def Setting.confirms : Setting → Confirmed
  | .off => .off
  | .limited => .limited
  | .full => .full

/-- The record is eligible to be charged: ACTIVE, its port confirmed FULL (R108). -/
def State.eligible (s : State) (r : Subscriber) : Bool :=
  match r.state, r.port with
  | .active, some p => decide (s.confirmed? p = some .full)
  | _, _ => false

/-- The dark flag of the tap named by the record's port field (R148). -/
def State.tapDark (s : State) (r : Subscriber) : Bool :=
  match r.port with
  | some p => s.plant.dark p.tap
  | none => false

/-- A port counts as a home: its linked record is ACTIVE or SUSPENDED (R68). -/
def State.isHome (s : State) (p : PortRecord) : Bool :=
  match p.link with
  | some n =>
    match s.slot? n with
    | some r => decide (r.state = .active) || decide (r.state = .suspended)
    | none => false
  | none => false

-- polling

/-- The poll state keeps an element in a round: UNVERIFIED, UP or FAILED (R78). -/
def PollState.inRound : PollState → Bool
  | .off => false
  | .unverified => true
  | .up => true
  | .failed => true
  | .shadowed => false

/-- An element in a poll state that a round visits (R78). -/
def Element.inRound (e : Element) : Bool :=
  match e.role.poll? with
  | some p => p.state.inRound
  | none => false

/-- The lowest element left in the round (R78, R80). -/
def State.leftInRound (s : State) : Option (Nat × Element) :=
  s.plant.elements.find? (fun i e => decide (s.poll.position ≤ i) && e.inRound)

/-- A poll is due (R80). -/
def State.pollDue (s : State) : Bool := !s.poll.verify.isEmpty || s.leftInRound.isSome

-- orders and the arbiter

/-- A frame can be built: an order is QUEUED (R97). -/
def State.canBuild (s : State) : Bool := s.orders.queue.any (fun o => decide (o.state = .queued))

/-- The Reply Window is free: no poll and no order frame is in flight (R112). -/
def State.windowFree (s : State) : Bool := s.poll.flight.isNone && s.orders.flight.isNone

/-- The transmitter is silent: the System Code is not set (R110). -/
def State.silent (s : State) : Bool := s.systemCode.isNone

-- the line-up and the accrual walk

/-- NEXT, where it exists (R36). -/
def Editor.next? : Editor → Option Generation
  | .idle => none
  | .editing g => some g
  | .scheduled g _ => some g

/-- The switchover minute, present in SCHEDULED (R43). -/
def Editor.minute? : Editor → Option Nat
  | .idle => none
  | .editing _ => none
  | .scheduled _ m => some m

/-- The editor's state (R37). -/
def Editor.name : Editor → EditorName
  | .idle => .idle
  | .editing _ => .editing
  | .scheduled _ _ => .scheduled

/-- The walk running (R144). -/
def AccrualWalk.name : AccrualWalk → WalkName
  | .none => .none
  | .accrual _ => .accrual
  | .period _ _ _ _ => .period

/-- The previous threshold, present while a period walk runs (R155). -/
def AccrualWalk.previous? : AccrualWalk → Option Nat
  | .none => Option.none
  | .accrual _ => Option.none
  | .period p _ _ _ => some p

/-- The tick of the running accrual walk (R144). -/
def AccrualWalk.tick? : AccrualWalk → Option Nat
  | .none => Option.none
  | .accrual t => some t
  | .period _ _ _ _ => Option.none

/-- Whether the period walk is closing records (R163). -/
def AccrualWalk.closing : AccrualWalk → Bool
  | .none => false
  | .accrual _ => false
  | .period _ c _ _ => c

/-- A walk of the Plant Tree is running (R66). -/
def PlantWalk.running : PlantWalk → Bool
  | .idle => false
  | .propagation _ _ => true
  | .rederive _ _ => true

/-- Ticks of a period of P days (00_scope.md, Time). -/
def ticksOf (days : Nat) : Nat := Config.ticksPerDay * days

/-- The per-tick rate q of a rate and a period of P days, floor(rate * 2^24 / T) (R142). -/
def perTick (rate days : Nat) : Nat := rate * Config.fineUnits / ticksOf days

/-- The sum of a per-tick rate over the tiers of a set that are below n; an undefined tier adds 0 (R143). -/
def weightBelow (tiers : Table Tier) (q : Tier → Nat) (m : TierSet) : Nat → Nat
  | 0 => 0
  | n + 1 =>
    weightBelow tiers q m n +
      (if hasTier m n then (match tiers.get? n with | some t => q t | none => 0) else 0)

/-- The weight of a tier set by the current per-tick rates (R143, R162). -/
def LineUp.currentWeight (l : LineUp) (m : TierSet) : Nat :=
  weightBelow l.tiers (fun t => t.currentQ) m Config.tiers

/-- The weight of a tier set by the previous per-tick rates (R20). -/
def LineUp.previousWeight (l : LineUp) (m : TierSet) : Nat :=
  weightBelow l.tiers (fun t => t.previousQ) m Config.tiers

/-- The weight of a tier set for the period a record's tag names (R20, R143). -/
def State.weightFor (s : State) (tag : Nat) (m : TierSet) : Nat :=
  if tag = s.accrual.sequence then s.lineUp.currentWeight m else s.lineUp.previousWeight m

end Sys2Proof.Machine
end

