-- ==== Sys2Proof/Machine/Operands.lean ====
section
/-! DEFINITION. Operand forms: ranges, and the codes of enumerated operands (R180, R188). A code that names no value
is out of range, and its request answers RANGE. -/

namespace Sys2Proof.Machine

/-- The operand lies within its range, both ends included. -/
abbrev within (low high n : Nat) : Prop := low ≤ n ∧ n ≤ high

/-- The level operand lies within -200 to +200 tenths of a dB (R87). -/
abbrev withinLevel (i : Int) : Prop := -200 ≤ i ∧ i ≤ 200

/-- A two-valued flag: 0 no, 1 yes (R188). -/
def flagOf? (code : Nat) : Option Bool :=
  if code = 0 then some false else if code = 1 then some true else none

/-- The kind of a channel (R188). -/
def ChannelKind.ofCode? (code : Nat) : Option ChannelKind :=
  if code = 0 then some .clear else if code = 1 then some .scrambled
  else if code = 2 then some .impulse else none

/-- The code of a channel's kind (R188). -/
def ChannelKind.code : ChannelKind → Nat
  | .clear => 0
  | .scrambled => 1
  | .impulse => 2

/-- CURRENT or NEXT (R188). -/
def GenerationName.ofCode? (code : Nat) : Option GenerationName :=
  if code = 0 then some .current else if code = 1 then some .next else none

/-- A priority as the alarm level takes it (R188). -/
def Priority.ofCode? (code : Nat) : Option Priority :=
  if code = 0 then some .urgent else if code = 1 then some .routine
  else if code = 2 then some .info else none

/-- The key of FIND SUBSCRIBER (R28). -/
inductive SubscriberKey where
  | account (n : Nat)
  | converter (n : Nat)
  | tapPort (tap port : Nat)
  deriving DecidableEq, Repr

/-- The key kind and the 4-byte value field of FIND SUBSCRIBER (R191): a converter address fills the last three bytes, a
tap port the first two and the fourth. None where the kind has no name or the key is out of its range (R28). -/
def subscriberKey? (kind value : Nat) : Option SubscriberKey :=
  if kind = 0 then
    (if within 1 99999999 value then some (.account value) else none)
  else if kind = 1 then
    (if within 1 16777215 (value % 16777216) then some (.converter (value % 16777216)) else none)
  else if kind = 2 then
    (if within 1 1023 (value / 65536) ∧ value % 256 ≤ 7 then some (.tapPort (value / 65536) (value % 256)) else none)
  else none

/-- What ADD ELEMENT adds, from its kind code and its last byte: poll enable, yes when left out, or a port count of 4 or
8, which a TAP cannot leave out (R59, R191). -/
inductive NewElement where
  | node (enable : Bool)
  | amplifier (enable : Bool)
  | tap (ports : Nat)
  deriving DecidableEq, Repr

/-- Poll enable, yes when the operand is left out (R59). -/
def enableOf? (last : Option Nat) : Option Bool :=
  match last with
  | none => some true
  | some b => flagOf? b

/-- The element ADD ELEMENT names, none where the kind code names none of NODE, AMPLIFIER and TAP or the last byte is out
of its range. -/
def newElement? (kind : Nat) (last : Option Nat) : Option NewElement :=
  if kind = 0 then (enableOf? last).map .node
  else if kind = 1 then (enableOf? last).map .amplifier
  else if kind = 2 then
    (match last with
     | some n => if n = 4 ∨ n = 8 then some (.tap n) else none
     | none => none)
  else none

/-- The power state byte of a POLL REPLY that passed its checks (R193, R194). -/
def powerOf (code : Nat) : PowerState := if code = 0 then .mains else .standby

/-- The bit rate of a strap value (00_scope.md): value 3 is taken as 64,000; values 0, 1 and 2 are taken in the order the
rates are listed (DEDUCED, unsafe: entry 5). -/
def rateOf (straps : Nat) : Rate :=
  if straps = 0 then .bps16000 else if straps = 1 then .bps32000 else .bps64000

end Sys2Proof.Machine
end

