-- ==== Sys2Proof/Machine/Ops.lean ====
section
/-! DEFINITION. Shared operations: the update of one block's state, saturating counts, the answers of requests, records and
elements, and the posting of notices. -/

namespace Sys2Proof.Machine

-- the update of one field of the state

/-- The state with its response replaced. -/
def State.withResponse (s : State) (x : Option Response) : State := { s with response := x }
/-- The state with its select replaced. -/
def State.withSelect (s : State) (x : Reception) : State := { s with select := x }
/-- The state with its clock replaced. -/
def State.withClock (s : State) (x : Clock) : State := { s with clock := x }
/-- The state with its systemCode replaced. -/
def State.withSystemCode (s : State) (x : Option Nat) : State := { s with systemCode := x }
/-- The state with its rate replaced. -/
def State.withRate (s : State) (x : Rate) : State := { s with rate := x }
/-- The state with its restarting replaced. -/
def State.withRestarting (s : State) (x : Bool) : State := { s with restarting := x }
/-- The state with its pinHeld replaced. -/
def State.withPinHeld (s : State) (x : Bool) : State := { s with pinHeld := x }
/-- The state with its subs replaced. -/
def State.withSubs (s : State) (x : SubscriberTable) : State := { s with subs := x }
/-- The state with its lineUp replaced. -/
def State.withLineUp (s : State) (x : LineUp) : State := { s with lineUp := x }
/-- The state with its plant replaced. -/
def State.withPlant (s : State) (x : PlantTree) : State := { s with plant := x }
/-- The state with its poll replaced. -/
def State.withPoll (s : State) (x : PollEngine) : State := { s with poll := x }
/-- The state with its orders replaced. -/
def State.withOrders (s : State) (x : OrderEngine) : State := { s with orders := x }
/-- The state with its down replaced. -/
def State.withDown (s : State) (x : Downstream) : State := { s with down := x }
/-- The state with its up replaced. -/
def State.withUp (s : State) (x : Upstream) : State := { s with up := x }
/-- The state with its accrual replaced. -/
def State.withAccrual (s : State) (x : Accrual) : State := { s with accrual := x }
/-- The state with its notices replaced. -/
def State.withNotices (s : State) (x : NoticeQueue) : State := { s with notices := x }
/-- The state with its pending replaced. -/
def State.withPending (s : State) (x : List Instr) : State := { s with pending := x }

-- inputs (R129, R140, R179)

/-- The first bit of what an input takes in; it is lost from the beginning where a restart is in progress. -/
def Reception.started (restarting : Bool) : Reception → Reception
  | .idle => if restarting then .abandoned else .taking
  | r => r

/-- A restart begins: what an input is taking in is abandoned. -/
def Reception.restart : Reception → Reception
  | .idle => .idle
  | _ => .abandoned

-- counts

/-- A count or sum that stops at its maximum (R1). -/
def satAdd (max a b : Nat) : Nat := min max (a + b)

-- answers of requests

/-- What a request is answered with: status, reason, values, and whether the answer is the OK of a RESTART. -/
structure Reply where
  status : Status
  reason : Option Reason
  values : Values
  startsRestart : Bool
  deriving DecidableEq, Repr

/-- A request as its owner takes it: the state after it, and its reply. -/
abbrev Request := State → State × Reply

/-- The request is done: OK with its values. -/
def done (v : Values) (s : State) : State × Reply :=
  (s, { status := .ok, reason := none, values := v, startsRestart := false })

/-- The request is refused with a status, and changes no state (R2). -/
def refuse (st : Status) (s : State) : State × Reply :=
  (s, { status := st, reason := none, values := .none, startsRestart := false })

/-- The request is refused with a status, a reason and values, and changes no state (R2). -/
def refuseFor (st : Status) (r : Reason) (v : Values) (s : State) : State × Reply :=
  (s, { status := st, reason := some r, values := v, startsRestart := false })

/-- The response is composed and placed in the buffer with the overrun mark clear (R178). -/
def State.respond (tag : Nat) (a : State × Reply) : State :=
  a.1.withResponse (some
    { tag := tag, status := a.2.status, reason := a.2.reason, values := a.2.values, overrun := false,
      startsRestart := a.2.startsRestart })

-- records and elements

/-- Put a record into a slot. -/
def State.setSlot (s : State) (n : Nat) (r : Subscriber) : State :=
  s.withSubs { s.subs with slots := s.subs.slots.set n r }

/-- Rewrite an element, if its entry is not empty. -/
def State.modifyElement (s : State) (i : Nat) (f : Element → Element) : State :=
  s.withPlant { s.plant with elements := s.plant.elements.modify i f }

/-- The role with its poll fields rewritten; a tap has none. -/
def Role.mapPoll (f : PollRecord → PollRecord) : Role → Role
  | .node p => .node (f p)
  | .amplifier p => .amplifier (f p)
  | .tap ports => .tap ports

/-- The role with its port records rewritten; only a tap has any. -/
def Role.mapPorts (f : List PortRecord → List PortRecord) : Role → Role
  | .node p => .node p
  | .amplifier p => .amplifier p
  | .tap ports => .tap (f ports)

/-- The element with its poll fields rewritten. -/
def Element.mapPoll (f : PollRecord → PollRecord) (e : Element) : Element :=
  { e with role := e.role.mapPoll f }

/-- Rewrite one port record of a tap. -/
def State.modifyPort (s : State) (tap port : Nat) (f : PortRecord → PortRecord) : State :=
  s.modifyElement tap (fun e => { e with role := e.role.mapPorts (fun ps => ps.modify port f) })

/-- Write the confirmed setting of a port (R58). -/
def State.setConfirmed (s : State) (tap port : Nat) (c : Confirmed) : State :=
  s.modifyPort tap port (fun p => { p with confirmed := c })

/-- Write the link of a port (R7). -/
def State.setLink (s : State) (tap port : Nat) (link : Option Nat) : State :=
  s.modifyPort tap port (fun p => { p with link := link })

-- posting notices (R172, R173)

/-- The held notices after a post coalesces into one of its family and subject, none where there is none (R172). -/
def coalesceIn (minute : Nat) (body : NoticeBody) (subject : Subject) : List Notice → Option (List Notice)
  | [] => none
  | n :: r =>
    if n.body.family = body.family ∧ n.subject = subject then
      some ({ n with body := body, last := minute, count := satAdd Config.max8 n.count 1 } :: r)
    else (coalesceIn minute body subject r).map (fun r' => n :: r')

/-- The lowest priority present among held notices (R173). -/
def lowestPriority (held : List Notice) : Priority :=
  if held.any (fun n => decide (n.body.priority = .info)) then .info
  else if held.any (fun n => decide (n.body.priority = .routine)) then .routine
  else .urgent

/-- The highest priority present among held notices (R174). -/
def highestPriority (held : List Notice) : Priority :=
  if held.any (fun n => decide (n.body.priority = .urgent)) then .urgent
  else if held.any (fun n => decide (n.body.priority = .routine)) then .routine
  else .info

/-- The held notices without the oldest of a priority; the others keep their order (R173, R174). -/
def removeOldest (p : Priority) : List Notice → List Notice
  | [] => []
  | n :: r => if n.body.priority = p then r else n :: removeOldest p r

/-- The queue after a post at a minute: it coalesces (R172), is appended, or meets a full queue (R173). -/
def NoticeQueue.post (q : NoticeQueue) (minute : Nat) (body : NoticeBody) (subject : Subject) : NoticeQueue :=
  match coalesceIn minute body subject q.held with
  | some held => { q with held := held }
  | none =>
    let n : Notice := { body := body, subject := subject, first := minute, last := minute, count := 1 }
    if q.held.length < Config.notices then { q with held := q.held ++ [n] }
    else if (lowestPriority q.held).rank < body.priority.rank then
      { q with held := removeOldest (lowestPriority q.held) q.held ++ [n],
               lost := satAdd Config.max16 q.lost 1 }
    else { q with lost := satAdd Config.max16 q.lost 1 }

/-- Post a notice at the Minute Clock's minute number (R170, R172). -/
def State.post (s : State) (body : NoticeBody) (subject : Subject) : State :=
  s.withNotices (s.notices.post s.clock.minute body subject)

end Sys2Proof.Machine
end

