-- ==== Sys2Proof/Machine/Barrier.lean ====
section
/-! DEFINITION. The write barrier and the offers to the Expedite List (R118 to R123). -/

namespace Sys2Proof.Machine

/-- The list after an offer that a held entry settles, none where no entry does (R120). -/
def settleOffer (e : ExpediteEntry) : List ExpediteEntry → Option (List ExpediteEntry)
  | [] => none
  | h :: r =>
    match e, h with
    | .refresh a, .refresh b =>
      if a = b then some (h :: r) else (settleOffer e r).map (fun r' => h :: r')
    | .disable a, .disable b =>
      if a = b then some (h :: r) else (settleOffer e r).map (fun r' => h :: r')
    | .decline s x w, .decline s' x' _ =>
      if s = s' ∧ x = x' then some (.decline s x w :: r)
      else (settleOffer e r).map (fun r' => h :: r')
    | _, _ => (settleOffer e r).map (fun r' => h :: r')

/-- The entry is a REFRESH. -/
def ExpediteEntry.isRefresh : ExpediteEntry → Bool
  | .refresh _ => true
  | .disable _ => false
  | .decline _ _ _ => false

/-- The list without its oldest REFRESH (R121). -/
def dropOldestRefresh : List ExpediteEntry → List ExpediteEntry
  | [] => []
  | h :: r => if h.isRefresh then r else h :: dropOldestRefresh r

/-- EXPEDITE DROPS increased by 1 (R123). -/
def Downstream.countDrop (d : Downstream) : Downstream :=
  { d with drops := satAdd Config.max16 d.drops 1 }

/-- Offer an entry to the Expedite List (R119, R120, R121). -/
def State.offer (e : ExpediteEntry) (s : State) : State :=
  match settleOffer e s.down.expedite with
  | some list => s.withDown { s.down with expedite := list }
  | none =>
    if s.down.expedite.length < Config.expedite then
      s.withDown { s.down with expedite := s.down.expedite ++ [e] }
    else if e.isRefresh then s.withDown s.down.countDrop
    else if s.down.expedite.any (fun h => h.isRefresh) then
      s.withDown ({ s.down with expedite := dropOldestRefresh s.down.expedite ++ [e] }).countDrop
    else
      match e with
      | .disable a => (s.withDown s.down.countDrop).post .disableLost (.converter a)
      | _ => s.withDown s.down.countDrop

/-- An AUTH frame for the slot is the frame in transmission (R118). -/
def Downstream.onWire (d : Downstream) (slot : Nat) : Bool :=
  match d.transmission with
  | some { stream := _, frame := .auth n _ _ _ _ _ } => decide (n = slot)
  | _ => false

/-- A converter-visible change of a slot is reported to the write barrier: a REFRESH is offered where the slot is behind
the cursor or on the wire (R118). -/
def State.report (slot : Nat) (s : State) : State :=
  if slot < s.down.cursor ∨ s.down.onWire slot = true then s.offer (.refresh slot) else s

/-- A change is reported when the record has a converter address after it (R9, R153). -/
def State.reportRecord (slot : Nat) (s : State) : State :=
  match s.slot? slot with
  | some r => if r.converter.isSome then s.report slot else s
  | none => s

end Sys2Proof.Machine
end

