-- ==== Sys2Proof/Machine/Engine.lean ====
section
/-! DEFINITION. The Accrual Engine's walks and ticks, and the minute numbers the clock offers its readers (R45, R52, R142 to
R156, R161 to R166, R182, R183). -/

namespace Sys2Proof.Machine

-- walks and ticks

/-- A defined tier at the changeover, with the new period's length (R161 step 3). -/
def Tier.changeover (days : Nat) (t : Tier) : Tier :=
  { t with currentRate := t.nextRate, previousQ := t.currentQ, currentQ := perTick t.nextRate days }

/-- The changeover, with which a period walk begins (R161). Closing records is set where a period was OPEN before it
(R163). -/
def State.changeover (s : State) (days : Nat) : State :=
  (s.withLineUp { s.lineUp with tiers := s.lineUp.tiers.map (fun _ t => t.changeover days) }).withAccrual
    { s.accrual with
      length := some days
      sequence := (s.accrual.sequence + 1) % 256
      threshold := s.accrual.staged
      walk := .period s.accrual.threshold s.accrual.length.isSome 0 0
      position := 0
      pendingPeriod := none }

/-- An accrual walk begins for a tick (R145, R146). -/
def State.beginAccrual (s : State) (tick : Nat) : State :=
  s.withAccrual { s.accrual with walk := .accrual tick, position := 0 }

/-- The next walk is chosen: the pending period walk, then a pending tick, then none (R146). -/
def State.chooseWalk (s : State) : State :=
  match s.accrual.pendingPeriod with
  | some days => s.changeover days
  | none =>
    match s.accrual.pendingTick with
    | some tick => (s.withAccrual { s.accrual with pendingTick := none }).beginAccrual tick
    | none => s.withAccrual { s.accrual with walk := .none, position := 0 }

/-- No walk of the Accrual Engine is running or pending and no restart holds one back: a tick begins its walk (R145,
R159). -/
def State.walkFree (s : State) : Bool :=
  !s.restarting && decide (s.accrual.walk = .none) && s.accrual.pendingPeriod.isNone && s.accrual.pendingTick.isNone

/-- An accrual tick taken by the engine: only while a period is OPEN; it begins a walk, becomes the pending tick, or is
lost (R145, R159). -/
def State.takeTick (s : State) (tick : Nat) : State :=
  if s.accrual.length.isNone then s
  else if s.walkFree then s.beginAccrual tick
  else if s.accrual.pendingTick.isNone then s.withAccrual { s.accrual with pendingTick := some tick }
  else s.post (.lostTick tick none) .none

-- an accrual visit (R147 to R153)

/-- An addition to A: it stops at 2^48 - 1 and sets the saturated mark there (R152). -/
def Subscriber.charge (r : Subscriber) (x : Nat) : Subscriber :=
  { r with accumulator := satAdd Config.max48 r.accumulator x
           saturated := r.saturated || decide (Config.max48 ≤ r.accumulator + x) }

/-- The end of a dark spell: one shorter than the threshold is charged (R148, R149). -/
def Subscriber.settle (threshold : Nat) (r : Subscriber) : Subscriber :=
  let r1 := if 0 < r.spell ∧ r.spell < threshold then
      { r.charge r.held with charged := satAdd Config.max16 r.charged r.spell }
    else r
  { r1 with held := 0, spell := 0 }

/-- The not-eligible case: a spell in progress is settled; a record with none keeps its fields (R148). -/
def Subscriber.visitIdle (threshold : Nat) (r : Subscriber) : Subscriber :=
  if r.spell = 0 then r else r.settle threshold

/-- The lit case: settlement, end of the spell, accrual (R149). -/
def Subscriber.visitLit (threshold : Nat) (r : Subscriber) : Subscriber :=
  let r1 := r.settle threshold
  { r1.charge r1.weight with charged := satAdd Config.max16 r1.charged 1 }

/-- The dark case (R150). -/
def Subscriber.visitDark (threshold : Nat) (r : Subscriber) : Subscriber :=
  let s := satAdd Config.max16 r.spell 1
  if s < threshold then { r with spell := s, held := satAdd Config.max48 r.held r.weight }
  else if s = threshold then
    { r with spell := s, held := 0, credited := satAdd Config.max16 r.credited s }
  else { r with spell := s, credited := satAdd Config.max16 r.credited 1 }

/-- The purchase list without the events that are no longer live offers (R153). -/
def State.prunedList (s : State) (r : Subscriber) : List Nat := r.purchases.filter s.isLive

/-- A record is put back at a visit: with its list pruned, and reported where an event was removed and the record has a
converter (R153). -/
def State.prune (s : State) (n : Nat) (r : Subscriber) : State :=
  let r' := { r with purchases := s.prunedList r }
  if r'.purchases.length = r.purchases.length then s.setSlot n r'
  else (s.setSlot n r').reportRecord n

/-- The case of a visit (R148). -/
def State.accrue (s : State) (r : Subscriber) : Subscriber :=
  if s.eligible r then
    (if s.tapDark r then r.visitDark s.accrual.threshold else r.visitLit s.accrual.threshold)
  else r.visitIdle s.accrual.threshold

/-- SATURATED is posted by the addition that sets the mark (R152). -/
def State.postSaturated (s : State) (n tick : Nat) (before after : Subscriber) : State :=
  if !before.saturated && after.saturated then s.post (.saturated after.periodTag tick) (.slot n) else s

/-- The walk position moves past a slot (R147). -/
def State.passSlot (s : State) (n : Nat) : State := s.withAccrual { s.accrual with position := n + 1 }

/-- The visit of an accrual walk to a slot (R147). -/
def State.accrualStep (s : State) (tick n : Nat) (r : Subscriber) : State :=
  let r1 := { r with purchases := s.prunedList r }
  let r2 := s.accrue r1
  ((((s.prune n r).setSlot n r2).postSaturated n tick r1 r2)).passSlot n

-- a period visit (R156, R162 to R165)

/-- The service cents of an accumulator: to the nearest cent, half a cent rounded up (R164). -/
def serviceCents (a : Nat) : Nat := (a + Config.halfCent) / Config.fineUnits

/-- The statement after closing: created, or merged into the one held (R164). -/
def Subscriber.closedStatement (r : Subscriber) : Statement :=
  match r.statement with
  | none =>
    { service := serviceCents r.accumulator, purchases := r.purchaseTotal, purchaseCount := r.purchaseCount,
      charged := r.charged, credited := r.credited, merged := 1, closing := r.periodTag }
  | some st =>
    { service := satAdd Config.max32 st.service (serviceCents r.accumulator)
      purchases := satAdd Config.max32 st.purchases r.purchaseTotal
      purchaseCount := satAdd Config.max8 st.purchaseCount r.purchaseCount
      charged := satAdd Config.max16 st.charged r.charged
      credited := satAdd Config.max16 st.credited r.credited
      merged := satAdd 15 st.merged 1
      closing := r.periodTag }

/-- A record closed: the figures in its statement, the period's fields cleared (R164, R165). -/
def Subscriber.close (r : Subscriber) : Subscriber :=
  { r with statement := some r.closedStatement, accumulator := 0, saturated := false, purchaseTotal := 0,
           purchaseCount := 0, charged := 0, credited := 0 }

/-- A spell in progress brought from the previous threshold p under the new threshold t (R156). -/
def Subscriber.rethreshold (p t : Nat) (r : Subscriber) : Subscriber :=
  if r.spell = 0 then r
  else if r.spell < p then
    (if r.spell < t then r
     else { r with held := 0, credited := satAdd Config.max16 r.credited r.spell })
  else if r.spell < t then { r with spell := t, held := 0 }
  else { r with held := 0 }

/-- The record of a visit is closed: its tag differs from the sequence, and the walk is closing records (R163). -/
def State.closes (s : State) (closing : Bool) (r : Subscriber) : Bool :=
  closing && decide (r.periodTag ≠ s.accrual.sequence)

/-- The record after a period-walk visit, its list pruned already (R162 steps 2 to 5). -/
def State.periodRecord (s : State) (previous : Nat) (closing : Bool) (r : Subscriber) : Subscriber :=
  let r1 := if s.closes closing r then r.close else r
  let r2 := r1.rethreshold previous s.accrual.threshold
  { r2 with periodTag := s.accrual.sequence, weight := s.lineUp.currentWeight r.tiers }

/-- The visit of a period walk to a slot (R162). -/
def State.periodStep (s : State) (previous : Nat) (closing : Bool) (closed merged n : Nat) (r : Subscriber) : State :=
  let r1 := { r with purchases := s.prunedList r }
  let s1 := ((s.prune n r).setSlot n (s.periodRecord previous closing r1)).passSlot n
  if s.closes closing r then
    s1.withAccrual { s1.accrual with
      walk := .period previous closing (closed + 1) (if r.statement.isSome then merged + 1 else merged) }
  else s1

-- the clock's readers (R182)

/-- The switchover, taken where the minute number is at or past the switchover minute of a SCHEDULED editor (R45). -/
def State.switchover (s : State) : State :=
  match s.lineUp.editor with
  | .scheduled next m =>
    if m ≤ s.clock.minute then
      ((s.withLineUp { s.lineUp with current := next, editor := .idle }).withDown
        { s.down with phase := .time, lastChannel := none }).post (.switchoverDone next.number) .none
    else s
  | _ => s

/-- Every offer whose air-end minute is reached leaves its slot (R52). -/
def State.airEnds (s : State) : State :=
  s.withLineUp { s.lineUp with offers := s.lineUp.offers.keep (fun _ o => decide (s.clock.minute < o.airEnd)) }

/-- The greatest tick minute at or below a minute number (R183). -/
def tickAt (minute : Nat) : Nat := minute / Config.tickMinutes * Config.tickMinutes

/-- The tick check: a tick minute above the last one, or the first, produces an accrual tick while the clock is set
(R183). -/
def State.checkTick (s : State) : State :=
  let tick := tickAt s.clock.minute
  let due := match s.clock.lastTick with
    | some l => decide (l < tick)
    | none => true
  if s.clock.isSet && due then (s.withClock { s.clock with lastTick := some tick }).takeTick tick else s

/-- A minute number is offered to the clock's readers: the switchover and the air ends, which wait while a restart
is in progress (R46, R48), and the tick check (R182). Their order is DEDUCED (entry 7). -/
def State.offerMinute (s : State) : State :=
  if s.restarting then s.checkTick else s.switchover.airEnds.checkTick

/-- The minute event: the minute number increases by 1 and is offered; at 4,294,967,295 it stops, without an event
(R182). That it may come as one command is a DESIGN CHOICE (entry 3). -/
def State.minutePasses (s : State) : State :=
  if s.clock.minute < Config.max32 then
    (s.withClock { s.clock with minute := s.clock.minute + 1, seconds := 0 }).offerMinute
  else s.withClock { s.clock with seconds := 0 }

end Sys2Proof.Machine
end

