-- ==== Sys2Proof/Machine/OrderQueue.lean ====
section
/-! DEFINITION. The Order Queue: placement, follow-on settings, the release of HELD orders, and the outcomes of a frame
(R92 to R105). -/

namespace Sys2Proof.Machine

/-- The order is the one of the tap port (R92). -/
def Order.isFor (tap port : Nat) (o : Order) : Bool := decide (o.tap = tap) && decide (o.port = port)

/-- The order of a tap port (R92: at most one). -/
def State.order? (s : State) (tap port : Nat) : Option Order := s.orders.queue.find? (Order.isFor tap port)

/-- The position of a tap port's order in the queue. -/
def State.orderPosition (s : State) (tap port : Nat) : Nat := s.orders.queue.findIdx (Order.isFor tap port)

/-- The Order Queue replaced. -/
def State.setOrderQueue (s : State) (q : List Order) : State := s.withOrders { s.orders with queue := q }

/-- The order of a tap port rewritten in its place. -/
def State.modifyOrder (s : State) (tap port : Nat) (f : Order → Order) : State :=
  s.setOrderQueue (s.orders.queue.map (fun o => if o.isFor tap port then f o else o))

/-- The order of a tap port taken from its place; the orders behind it move up (R92). -/
def State.removeOrder (s : State) (tap port : Nat) : State :=
  s.setOrderQueue (s.orders.queue.filter (fun o => !(o.isFor tap port)))

/-- A new order: HELD where its tap is dark at that moment, QUEUED where it is lit (R94, R95). -/
def State.newOrder (s : State) (tap port : Nat) (setting : Setting) (origin : Option Nat) : Order :=
  { tap := tap, port := port, setting := setting, state := if s.plant.dark tap then .held else .queued,
    attempts := 0, origin := origin, followOn := none }

/-- Place an order (R94): it replaces a QUEUED or HELD order of the port in place, becomes the follow-on of a SENT one, or
is appended; none where an append finds 64 orders. -/
def State.placeOrder (s : State) (tap port : Nat) (setting : Setting) (origin : Option Nat) : Option State :=
  match s.order? tap port with
  | some o =>
    if o.state = .sent then
      some (s.modifyOrder tap port (fun o => { o with followOn := some setting, origin := origin }))
    else
      some (s.modifyOrder tap port (fun o => { o with setting := setting, attempts := 0, origin := origin }))
  | none =>
    if s.orders.queue.length < Config.orders then
      some (s.setOrderQueue (s.orders.queue ++ [s.newOrder tap port setting origin]))
    else none

/-- The origin of a released port's order becomes absent where it names the slot (R17). -/
def State.dropOrigin (s : State) (tap port slot : Nat) : State :=
  s.modifyOrder tap port (fun o => if o.origin = some slot then { o with origin := none } else o)

/-- A follow-on applied as a replacement to a returning order (R95). -/
def Order.applyFollowOn (o : Order) : Order :=
  match o.followOn with
  | some f => { o with setting := f, attempts := 0, followOn := none }
  | none => o

/-- The follow-on of an order that has left the queue becomes a new order at the tail (R95). -/
def State.appendFollowOn (s : State) (o : Order) : State :=
  match o.followOn with
  | some f => s.setOrderQueue (s.orders.queue ++ [s.newOrder o.tap o.port f o.origin])
  | none => s

/-- Every HELD order whose tap is lit becomes QUEUED in its place (R70 step 2, R96). -/
def State.releaseHeld (s : State) : State :=
  s.setOrderQueue (s.orders.queue.map
    (fun o => if o.state = .held ∧ s.plant.dark o.tap = false then { o with state := .queued } else o))

/-- ORDER FAILED: its subject is the linked slot, or the tap and port where the port is unlinked when it is posted
(R105). -/
def State.postOrderFailed (s : State) (o : Order) (reason : OrderFailure) (written : Confirmed) : State :=
  s.post (.orderFailed reason o.tap o.port o.setting o.origin written)
    (match s.port? o.tap o.port with
     | some { confirmed := _, link := some n } => .slot n
     | _ => .tapPort o.tap o.port)

/-- What a frame's outcome says of one of its ports (R100). -/
inductive PortOutcome where
  | ack
  | nak
  | silent
  deriving DecidableEq, Repr

/-- An ACK: the port is confirmed as ordered, the order leaves, its follow-on becomes a new order (R100). -/
def State.ackOrder (s : State) (o : Order) : State :=
  ((s.setConfirmed o.tap o.port o.setting.confirms).removeOrder o.tap o.port).appendFollowOn o

/-- The port is given up: it is confirmed FAULT or UNKNOWN, the order leaves, ORDER FAILED is posted, the follow-on
becomes a new order (R101, R104). -/
def State.failOrder (s : State) (o : Order) (reason : OrderFailure) (written : Confirmed) : State :=
  (((s.setConfirmed o.tap o.port written).removeOrder o.tap o.port).postOrderFailed o reason written).appendFollowOn o

/-- One order of a frame settled (R100 to R104). The second component gathers, in frame order, the orders that return to
the head of the queue. -/
def State.settleOrder (tap : Nat) (acc : State × List Order) (result : Nat × PortOutcome) : State × List Order :=
  match acc.1.order? tap result.1 with
  | none => acc
  | some o =>
    match result.2 with
    | .ack => (acc.1.ackOrder o, acc.2)
    | .nak => (acc.1.failOrder o .portFault .fault, acc.2)
    | .silent =>
      if acc.1.plant.dark tap then
        (acc.1.modifyOrder tap result.1 (fun o => ({ o with state := .held }).applyFollowOn), acc.2)
      else if o.attempts + 1 < Config.attempts then
        (acc.1.removeOrder tap result.1,
         acc.2 ++ [({ o with state := .queued, attempts := o.attempts + 1 }).applyFollowOn])
      else (acc.1.failOrder o .noAnswer .unknown, acc.2)

/-- The frame in flight ends with an outcome for each of its ports, applied in frame order; the orders that return stand
at the head in frame order (R100 to R104). That the follow-ons of several orders that fail at one expiry or fourth HOLD join
the tail in frame order is a DESIGN CHOICE, unsafe (entry 30). -/
def State.settleFrame (s : State) (f : OrderFlight) (outcome : Nat → PortOutcome) : State :=
  let acc := (f.ports.map (fun p => (p, outcome p))).foldl (State.settleOrder f.tap)
    (s.withOrders { s.orders with flight := none }, [])
  acc.1.setOrderQueue (acc.2 ++ acc.1.orders.queue)

/-- The outcome an ORDER REPLY gives a port: its first result for the port decides (R100, R102). -/
def outcomeIn (results : List (Nat × Nat)) (port : Nat) : PortOutcome :=
  match results.find? (fun r => r.1 == port) with
  | some r => if r.2 = 0 then .ack else .nak
  | none => .silent

end Sys2Proof.Machine
end

