-- ==== Sys2Proof/Machine/Tree.lean ====
section
/-! DEFINITION. The tree's links and order of walking, the Verify List and the round, propagation requests, and what a walk
does at a visit and at its end (R56, R63 to R72, R77 to R82). -/

namespace Sys2Proof.Machine

-- links (R56)

/-- The first child of an element, or of the root at index 0. -/
def PlantTree.firstChild (t : PlantTree) (i : Nat) : Option Nat :=
  if i = 0 then t.rootFirst
  else match t.elements.get? i with
    | some e => e.firstChild
    | none => none

/-- The list that a head and the next-sibling links give, over at most `fuel` members (DESIGN CHOICE: entry 23). -/
def PlantTree.siblings (t : PlantTree) : Nat → Option Nat → List Nat
  | 0, _ => []
  | _, none => []
  | fuel + 1, some i =>
    i :: t.siblings fuel (match t.elements.get? i with | some e => e.nextSibling | none => none)

/-- The children of an element in list order (R56). -/
def PlantTree.children (t : PlantTree) (i : Nat) : List Nat := t.siblings Config.elements (t.firstChild i)

/-- The head of an element's child list written. -/
def PlantTree.setFirstChild (t : PlantTree) (i : Nat) (c : Option Nat) : PlantTree :=
  if i = 0 then { t with rootFirst := c }
  else { t with elements := t.elements.modify i (fun e => { e with firstChild := c }) }

/-- Append an element at the tail of its parent's child list (R56). -/
def PlantTree.link (t : PlantTree) (parent i : Nat) : PlantTree :=
  match (t.children parent).getLast? with
  | none => t.setFirstChild parent (some i)
  | some l => { t with elements := t.elements.modify l (fun e => { e with nextSibling := some i }) }

/-- Unlink an element: its predecessor, or its parent's head, takes its next sibling (R56). -/
def PlantTree.unlink (t : PlantTree) (i : Nat) (e : Element) : PlantTree :=
  if t.firstChild e.parent = some i then t.setFirstChild e.parent e.nextSibling
  else
    let skip (x : Element) : Element := if x.nextSibling = some i then { x with nextSibling := e.nextSibling } else x
    { t with elements := t.elements.map (fun _ x => skip x) }

/-- The next element in pre-order after a subtree that is finished: the next sibling, or that of the nearest ancestor
below the top that has one. -/
def PlantTree.climb (t : PlantTree) (top : Nat) : Nat → Nat → Option Nat
  | 0, _ => none
  | fuel + 1, i =>
    if i = top then none
    else match t.elements.get? i with
      | none => none
      | some e =>
        match e.nextSibling with
        | some n => some n
        | none => t.climb top fuel e.parent

/-- The element after `i` in the pre-order of the subtree of `top` (R56). -/
def PlantTree.after (t : PlantTree) (top i : Nat) : Option Nat :=
  match t.firstChild i with
  | some c => some c
  | none => t.climb top Config.elements i

/-- The element lies in the subtree of `top`, itself included. -/
def PlantTree.below (t : PlantTree) (top : Nat) : Nat → Nat → Bool
  | 0, _ => false
  | fuel + 1, i =>
    if i = top then true
    else if i = 0 then false
    else match t.elements.get? i with
      | none => false
      | some e => t.below top fuel e.parent

-- the Verify List, the poll in flight and the round (R77, R78, R79, R82)

/-- The element joins the Verify List at the tail; none stands on it twice (R77). -/
def PollEngine.enlist (p : PollEngine) (i : Nat) : PollEngine :=
  if p.verify.contains i then p else { p with verify := p.verify ++ [i] }

/-- An element that enters polling joins the Verify List where it is UNVERIFIED (R60, R77, R86). -/
def PollEngine.joinIfUnverified (p : PollEngine) (i : Nat) (state : Option PollState) : PollEngine :=
  if state = some .unverified then p.enlist i else p

/-- The element leaves the Verify List from its place (R77). -/
def PollEngine.delist (p : PollEngine) (i : Nat) : PollEngine :=
  { p with verify := p.verify.filter (fun j => j != i) }

/-- The void mark is set where the element is that of the poll in flight (R82). -/
def PollEngine.markVoid (p : PollEngine) (i : Nat) : PollEngine :=
  match p.flight with
  | some f => if f.element = i then { p with flight := some { f with void := true } } else p
  | none => p

/-- A round begins: position 1, the round period read, the timer RUNNING (R78). -/
def PollEngine.beginRound (p : PollEngine) : PollEngine :=
  { p with position := 1, expired := false, periodInForce := p.roundPeriod }

/-- A new round begins where the timer is EXPIRED and no element is left in the round (R79). -/
def State.checkRound (s : State) : State :=
  if s.poll.expired = true ∧ s.leftInRound.isNone then s.withPoll s.poll.beginRound else s

-- walks and propagation requests (R64, R65, R66)

/-- A walk begins, if none is running: at the head of the queue, or over the whole tree where the re-derive flag is set
(R66). -/
def State.beginWalk (s : State) : State :=
  match s.plant.walk with
  | .idle =>
    match s.plant.queue with
    | e :: rest =>
      s.withPlant { s.plant with
        queue := rest
        walk := .propagation { element := e, mark := .none, failMinute := 0, darkened := 0, relit := 0 } none }
    | [] =>
      if s.plant.rederive then s.withPlant { s.plant with rederive := false, walk := .rederive 0 [] } else s
  | _ => s

/-- The kind of a propagation request (R64). -/
inductive PropagationKind where
  | failure
  | restore (reason : RestoreReason)
  deriving DecidableEq, Repr

/-- The notice-owed mark and the fail minute after a request (R64). -/
def Element.owe (now : Nat) (k : PropagationKind) (e : Element) : Element :=
  match k, e.mark with
  | .failure, .none => { e with mark := .outage, failMinute := now }
  | .failure, .outage => e
  | .failure, .restored _ => { e with mark := .none }
  | .restore r, .none => { e with mark := .restored r }
  | .restore _, .outage => { e with mark := .none }
  | .restore r, .restored _ => { e with mark := .restored r }

/-- The request enters the Propagation Queue (R65). -/
def PlantTree.enqueue (t : PlantTree) (i : Nat) : PlantTree :=
  if t.rederive ∨ i ∈ t.queue then t
  else if t.queue.length < Config.propagationQueue then { t with queue := t.queue ++ [i] }
  else { t with rederive := true }

/-- A propagation request taken by the Plant Tree: mark and fail minute, then the queue, then the walk it may begin
(R64, R65, R66). -/
def State.requestWalk (s : State) (i : Nat) (k : PropagationKind) : State :=
  let s1 := s.modifyElement i (Element.owe s.clock.minute k)
  (s1.withPlant (s1.plant.enqueue i)).beginWalk

-- a visit (R67)

/-- The poll state after a visit, by the shadow flag (R67 step 2). -/
def PollState.visited (shadow : Bool) (p : PollState) : PollState :=
  match shadow, p with
  | true, .unverified => .shadowed
  | true, .up => .shadowed
  | true, .failed => .shadowed
  | false, .shadowed => .unverified
  | _, p => p

/-- The element after the step of R67, its parent's dark flag given. -/
def Element.visited (parentDark : Bool) (e : Element) : Element :=
  match e.role.poll? with
  | some p =>
    let after := p.state.visited parentDark
    if after = p.state then
      { e with shadow := parentDark, dark := parentDark || decide (p.state = .failed) }
    else
      { e.mapPoll (fun p => { p with state := after, misses := 0 }) with
          shadow := parentDark, dark := parentDark || decide (after = .failed),
          mark := if after = .shadowed then .none else e.mark }
  | none => { e with shadow := parentDark, dark := parentDark }

/-- The Poll Engine after a visit that moves an element from one poll state to another (R67, R77, R82). -/
def PollEngine.visited (p : PollEngine) (i : Nat) (before after : Option PollState) : PollEngine :=
  if before = after then p
  else if after = some .shadowed then (p.delist i).markVoid i
  else if after = some .unverified then p.enlist i
  else p

/-- The homes of an element's ports (R68). -/
def State.homes (s : State) (e : Element) : Nat := (e.role.ports.filter s.isHome).length

/-- The visit of a walk to an element (R67); the homes it darkens and the homes it relights (R68). -/
def State.visit (s : State) (i : Nat) : State × Nat × Nat :=
  match s.element? i with
  | none => (s, 0, 0)
  | some e =>
    let e' := e.visited (s.plant.dark e.parent)
    let s' := (s.modifyElement i (fun _ => e')).withPoll
      (s.poll.visited i (e.role.poll?.map (fun p => p.state)) (e'.role.poll?.map (fun p => p.state)))
    if e.dark = e'.dark then (s', 0, 0)
    else if e'.dark then (s', s.homes e, 0)
    else (s', 0, s.homes e)

/-- A walk takes an element's notice-owed mark and fail minute; the element's mark is then none (R68). -/
def State.takeMark (s : State) (i : Nat) : State × Mark × Nat :=
  match s.element? i with
  | some e => (s.modifyElement i (fun e => { e with mark := .none }), e.mark, e.failMinute)
  | none => (s, .none, 0)

/-- Homes counted for an owed notice, each count stopping at 4,096 (R1, R68; for a re-derive walk
DEDUCED: entry 15). -/
def Owing.count (o : Owing) (darkened relit : Nat) : Owing :=
  { o with darkened := satAdd Config.slots o.darkened darkened, relit := satAdd Config.slots o.relit relit }

/-- The owed notice is posted (R70 step 1). -/
def State.pay (s : State) (o : Owing) : State :=
  match o.mark with
  | .none => s
  | .outage => s.post (.outage o.darkened o.failMinute) (.element o.element)
  | .restored r => s.post (.restored o.relit (s.clock.minute - o.failMinute) r) (.element o.element)

/-- The element a walk visits next, found when it is visited (DEDUCED: entry 17): a propagation walk's own first, then on in
pre-order (R68). -/
def PlantTree.nextVisit (t : PlantTree) : Option Nat :=
  match t.walk with
  | .idle => none
  | .propagation own none => some own.element
  | .propagation own (some l) => t.after own.element l
  | .rederive l _ => t.after 0 l

/-- A propagation walk's visit (R67, R68). -/
def State.propagationStep (s : State) (own : Owing) (i : Nat) : State :=
  let v := s.visit i
  let counted := own.count v.2.1 v.2.2
  if i = own.element then
    let m := v.1.takeMark i
    (m.1.withPlant { m.1.plant with
      walk := .propagation { counted with mark := m.2.1, failMinute := m.2.2 } (some i) }).checkRound
  else (v.1.withPlant { v.1.plant with walk := .propagation counted (some i) }).checkRound

/-- A re-derive walk's visit: the step of R67, the mark taken, and the notices of the subtrees it has finished, innermost
first (R71), each posted within the visit that finishes its subtree (DEDUCED: entry 16). -/
def State.rederiveStep (s : State) (owing : List Owing) (i : Nat) : State :=
  let v := s.visit i
  let m := v.1.takeMark i
  let counted := owing.map (fun o => o.count v.2.1 v.2.2)
  let all := if m.2.1 = .none then counted
    else ({ element := i, mark := m.2.1, failMinute := m.2.2, darkened := 0, relit := 0 } : Owing).count v.2.1 v.2.2
      :: counted
  let unfinished (o : Owing) : Bool :=
    match m.1.plant.after 0 i with
    | some n => m.1.plant.below o.element (Config.elements + 1) n
    | none => false
  let s1 := (all.filter (fun o => !(unfinished o))).foldl State.pay m.1
  (s1.withPlant { s1.plant with walk := .rederive i (all.filter unfinished) }).checkRound

/-- A walk ends: HELD orders on lit taps are released, and the next walk may begin (R70 steps 2 and 3). -/
def State.endWalk (s : State) : State :=
  let s1 := s.releaseHeld
  (s1.withPlant { s1.plant with walk := .idle }).beginWalk

-- a walk abandoned by a restart (R72)

/-- A mark taken and not paid is given back to its element (R72 step 1). -/
def Element.giveBack (o : Owing) (e : Element) : Element :=
  match o.mark, e.mark with
  | .none, _ => e
  | m, .none => { e with mark := m, failMinute := o.failMinute }
  | .outage, .restored _ => { e with mark := .none }
  | .restored _, .outage => { e with mark := .none, failMinute := o.failMinute }
  | .outage, .outage => { e with failMinute := o.failMinute }
  | .restored _, .restored _ => e

/-- The marks a running walk has taken and not yet paid. -/
def PlantWalk.taken : PlantWalk → List Owing
  | .idle => []
  | .propagation own _ => [own]
  | .rederive _ owing => owing

/-- The Plant Tree's restart (R72). -/
def PlantTree.restart (t : PlantTree) : PlantTree :=
  { t with
    elements := t.walk.taken.foldl (fun es o => es.modify o.element (Element.giveBack o)) t.elements
    queue := [], rederive := true, walk := .idle }

end Sys2Proof.Machine
end

