-- ==== Sys2Proof/Machine/PollOutcome.lean ====
section
/-! DEFINITION. The outcomes of a poll: the answer and the no-answer, the level and the power state (R83, R84, R88, R90). -/

namespace Sys2Proof.Machine

/-- The level state after an answer of level L against the limits l and h with hysteresis d (R88). -/
def LevelState.evaluate (st : LevelState) (L l h : Int) (d : Nat) : LevelState :=
  match st with
  | .normal => if L < l then .low else if h < L then .high else .normal
  | .low => if h < L then .high else if l + d ≤ L then .normal else .low
  | .high => if L < l then .low else if L ≤ h - d then .normal else .high

/-- A level clamped to -200 to +200 tenths of a dB (R83, R88). -/
def clampLevel (L : Int) : Int := max (-200) (min 200 L)

/-- A change of power state is reported, but not the first answer on mains (R90). -/
def PowerState.reported (before now : PowerState) : Bool :=
  match before, now with
  | .unknown, .mains => false
  | a, b => decide (a ≠ b)

/-- The poll state after an answer (R83). -/
def PollState.answered (p : PollState) : PollState :=
  match p with
  | .unverified => .up
  | .up => .up
  | .failed => .up
  | .off => .off
  | .shadowed => .shadowed

/-- The power state of an answer is stored, and a change reported (R90). -/
def State.answerPower (s : State) (i : Nat) (p : PollRecord) (now : PowerState) : State :=
  let s1 := s.modifyElement i (Element.mapPoll (fun p => { p with power := now }))
  if p.power.reported now then s1.post (.power now p.power) (.element i) else s1

/-- The level of an answer is clamped, stored and evaluated, and a change of level state reported (R88). -/
def State.answerLevel (s : State) (i : Nat) (p : PollRecord) (level : Int) : State :=
  let L := clampLevel level
  let st := p.levelState.evaluate L p.low p.high p.hysteresis
  let s1 := s.modifyElement i (Element.mapPoll (fun p => { p with lastLevel := L, levelState := st }))
  if st = p.levelState then s1 else s1.post (.level st L p.low p.high) (.element i)

/-- An answer applied to the element of the poll (R83). -/
def State.pollAnswer (s : State) (i : Nat) (level : Int) (power : PowerState) : State :=
  match s.element? i with
  | none => s
  | some e =>
    match e.role.poll? with
    | none => s
    | some p =>
      let s1 := s.modifyElement i (Element.mapPoll (fun p => { p with misses := 0, state := p.state.answered }))
      let s2 := if p.state = .failed then s1.requestWalk i (.restore .answer) else s1
      (s2.answerPower i p power).answerLevel i p level

/-- A no-answer applied to the element of the poll (R84). -/
def State.pollSilence (s : State) (i : Nat) : State :=
  match s.element? i with
  | none => s
  | some e =>
    match e.role.poll? with
    | none => s
    | some p =>
      let misses := satAdd 15 p.misses 1
      if (p.state = .unverified ∨ p.state = .up) ∧ s.poll.missLimit ≤ misses then
        (s.modifyElement i (Element.mapPoll (fun p => { p with misses := misses, state := .failed }))).requestWalk i
          .failure
      else s.modifyElement i (Element.mapPoll (fun p => { p with misses := misses }))

end Sys2Proof.Machine
end

