-- ==== Sys2Proof/Machine/Transmit.lean ====
section
/-! DEFINITION. The transmitter: what each stream composes, the arbiter's choice and its counts, the end of a
transmission with the opening of the Reply Window (R80, R97, R110 to R116, R122, R124, R130). -/

namespace Sys2Proof.Machine

/-- The subject of a composed frame (R110). That the generation of a MAP frame's subject is CURRENT or NEXT, and not the
generation number, is a DESIGN CHOICE, unsafe (entry 31). -/
def DownFrame.subject : DownFrame → FrameSubject
  | .auth slot _ _ _ _ _ => .auth slot
  | .disable address => .disable address
  | .decline slot _ event _ => .decline slot event
  | .mapCurrent _ number _ => .map .current number
  | .mapNext _ number _ _ => .map .next number
  | .time _ _ _ => .time
  | .poll element _ _ => .poll element
  | .order tap _ _ _ => .order tap

/-- The frame a stream has composed is put on the wire. -/
def State.transmit (s : State) (stream : Stream) (f : DownFrame) : State :=
  s.withDown { s.down with transmission := some { stream := stream, frame := f } }

/-- The map gap after a grant to another stream (R111). -/
def Downstream.bumpGap (d : Downstream) : Downstream := { d with mapGap := satAdd Config.mapGap d.mapGap 1 }

-- AUTH, the Expedite List and the carousel

/-- The AUTH frame of a record with a converter (R116). -/
def State.authFrame (s : State) (slot : Nat) (r : Subscriber) (address : Nat) : DownFrame :=
  if r.state = .active then .auth slot address true s.lineUp.current.number r.tiers r.purchases
  else .auth slot address false s.lineUp.current.number 0 []

/-- The frame an Expedite List entry would send now, none where it is discarded (R122). -/
def State.expediteFrame (s : State) : ExpediteEntry → Option DownFrame
  | .refresh n =>
    match s.slot? n with
    | some r => r.converter.map (fun a => s.authFrame n r a)
    | none => none
  | .disable a => if (s.subs.converters.get? a).isSome then none else some (.disable a)
  | .decline n event reason =>
    match s.slot? n with
    | some r => r.converter.map (fun a => .decline n a event reason)
    | none => none

/-- The first frame the list sends, with the entries behind it: entries that send nothing are discarded before it (R122). -/
def State.expediteHead (s : State) : List ExpediteEntry → Option (DownFrame × List ExpediteEntry)
  | [] => none
  | h :: r =>
    match s.expediteFrame h with
    | some f => some (f, r)
    | none => s.expediteHead r

/-- The lowest slot from a number on whose record has a converter, with the address (R115). -/
def State.nextConverter (s : State) (from_ : Nat) : Option (Nat × Subscriber) :=
  s.subs.slots.find? (fun k r => decide (from_ ≤ k) && r.converter.isSome)

/-- The carousel's next slot: at or above the cursor, or from 0 on with the pass count increased (R115). -/
def State.carouselChoice (s : State) : Option (Nat × Subscriber × Nat) :=
  match s.nextConverter s.down.cursor with
  | some (n, r) => some (n, r, s.down.passes)
  | none =>
    match s.nextConverter 0 with
    | some (n, r) => some (n, r, (s.down.passes + 1) % 65536)
    | none => none

/-- The CAROUSEL grant of a slot: the AUTH frame, and the cursor past the slot (R115). -/
def State.carouselGrant (s : State) (n : Nat) (r : Subscriber) (passes : Nat) : State :=
  let d := if n = 4095 then { s.down with cursor := 0, passes := (passes + 1) % 65536 }
    else { s.down with cursor := n + 1, passes := passes }
  (s.withDown d.bumpGap).transmit .carousel (s.authFrame n r (r.converter.getD 0))

-- the map stream (R124)

/-- The first channel above the last one sent. -/
def Generation.nextChannel (g : Generation) (last : Option Nat) : Option (Nat × Channel) :=
  g.channels.find? (fun k _ => match last with | some l => decide (l < k) | none => true)

/-- The TIME frame that begins a map pass. -/
def State.mapTime (s : State) : DownFrame × MapPhase × Option Nat :=
  (.time s.clock.minute s.clock.isSet s.lineUp.current.number, .current, none)

/-- The next frame of phase NEXT, or the TIME frame of the next pass. -/
def State.mapNextPart (s : State) (last : Option Nat) : DownFrame × MapPhase × Option Nat :=
  match s.lineUp.editor with
  | .scheduled g m =>
    match g.nextChannel last with
    | some (n, c) => (.mapNext g.number n c m, .next, some n)
    | none => s.mapTime
  | _ => s.mapTime

/-- The next frame of phase CURRENT, or of the phase that follows it. -/
def State.mapCurrentPart (s : State) (last : Option Nat) : DownFrame × MapPhase × Option Nat :=
  match s.lineUp.current.nextChannel last with
  | some (n, c) => (.mapCurrent s.lineUp.current.number n c, .current, some n)
  | none => s.mapNextPart none

/-- What a MAP grant composes, with the map cursor after it (R124). -/
def State.mapFrame (s : State) : DownFrame × MapPhase × Option Nat :=
  match s.down.phase with
  | .time => s.mapTime
  | .current => s.mapCurrentPart s.down.lastChannel
  | .next => s.mapNextPart s.down.lastChannel

/-- The MAP grant (R111, R124). -/
def State.mapGrant (s : State) : State :=
  let m := s.mapFrame
  (s.withDown { s.down with mapGap := 0, phase := m.2.1, lastChannel := m.2.2 }).transmit .map m.1

-- window frames

/-- The plant address of an element. -/
def State.addressOf (s : State) (i : Nat) : Nat × Nat :=
  match s.element? i with
  | some e => (e.group, e.member)
  | none => (0, 0)

/-- The element the Poll Engine polls at a grant, and the engine after the choice (R80). -/
def State.pollChoice (s : State) : Option (Nat × PollEngine) :=
  match s.poll.verify with
  | i :: rest => some (i, { s.poll with verify := rest })
  | [] =>
    match s.leftInRound with
    | some (i, _) => some (i, { s.poll with position := i + 1 })
    | none => none

/-- The POLL grant (R80, R81, R111). -/
def State.pollGrant (s : State) (i : Nat) (p : PollEngine) : State :=
  let a := s.addressOf i
  (((s.withPoll { p with flight := some { element := i, opened := false, void := false } }).withDown
    { s.down.bumpGap with orderRun := 0 }).transmit .poll (.poll i a.1 a.2)).checkRound

/-- The orders of the frame built for a tap: the QUEUED ones, in queue order, at most 4 (R97). -/
def State.batch (s : State) (tap : Nat) : List Order :=
  (s.orders.queue.filter (fun o => decide (o.state = .queued) && decide (o.tap = tap))).take Config.frameActions

/-- The ORDER grant for the tap of the oldest QUEUED order (R97, R98, R111). -/
def State.orderGrant (s : State) (tap : Nat) : State :=
  let batch := s.batch tap
  let ports := batch.map (fun o => o.port)
  let a := s.addressOf tap
  ((s.withOrders
    { queue := s.orders.queue.map (fun o =>
        if o.state = .queued ∧ o.tap = tap ∧ o.port ∈ ports then { o with state := .sent } else o)
      flight := some { tap := tap, ports := ports, opened := false, holds := 0 } }).withDown
    { s.down.bumpGap with orderRun := satAdd Config.orderRun s.down.orderRun 1 }).transmit .order
      (.order tap a.1 a.2 (batch.map (fun o => (o.port, o.setting))))

-- the arbiter (R111)

/-- Steps 4 and 5 of the arbiter: the carousel where a record has a converter, else the map stream. -/
def State.chooseBackground (s : State) : State :=
  match s.carouselChoice with
  | some (n, r, passes) => s.carouselGrant n r passes
  | none => s.mapGrant

/-- Step 3 of the arbiter: the first entry of the Expedite List that can be sent; entries before it, or all, are
discarded (R122). -/
def State.chooseExpedite (s : State) : State :=
  match s.expediteHead s.down.expedite with
  | some (f, rest) => (s.withDown { s.down.bumpGap with expedite := rest }).transmit .expedite f
  | none => (s.withDown { s.down with expedite := [] }).chooseBackground

/-- Steps 2 to 5 of the arbiter. -/
def State.chooseOther (s : State) : State :=
  if s.down.mapGap = Config.mapGap then s.mapGrant else s.chooseExpedite

/-- Step 1a: orders may take the free window (R111). -/
def State.ordersFirst (s : State) : Bool :=
  s.windowFree && s.canBuild && (!s.pollDue || decide (s.down.orderRun < Config.orderRun))

/-- The arbiter's choice, taken when the transmitter is free and the System Code is set (R110, R111). -/
def State.arbitrate (s : State) : State :=
  if s.ordersFirst then
    match s.orders.queue.find? (fun o => decide (o.state = .queued)) with
    | some o => s.orderGrant o.tap
    | none => s.chooseOther
  else if s.windowFree then
    match s.pollChoice with
    | some (i, p) => s.pollGrant i p
    | none => s.chooseOther
  else s.chooseOther

-- the end of a transmission (R110, R114, R130)

/-- The Reply Window timer of a POLL frame by the timeout code, in ms (R73). -/
def timeoutMs (code : Nat) : Nat :=
  if code = 0 then 25 else if code = 1 then 60 else if code = 2 then 150 else 400

/-- The Reply Window opens for a POLL or ORDER frame that has been sent (R81, R98, R130). -/
def State.openWindow (s : State) : DownFrame → State
  | .poll i g m =>
    (s.withUp { s.up with window := some { kind := .poll, element := i, group := g, member := m,
                                           timer := timeoutMs s.poll.timeout } }).withPoll
      { s.poll with flight := s.poll.flight.map (fun f => { f with opened := true }) }
  | .order i g m _ =>
    (s.withUp { s.up with window := some { kind := .order, element := i, group := g, member := m,
                                           timer := Config.orderTimer } }).withOrders
      { s.orders with flight := s.orders.flight.map (fun f => { f with opened := true }) }
  | _ => s

/-- The frame in transmission has been sent whole: the transmitter is free, a window opens, the arbiter chooses (R110). -/
def State.endTransmission (s : State) : State :=
  match s.down.transmission with
  | none => s
  | some t => ((s.withDown { s.down with transmission := none }).openWindow t.frame).arbitrate

end Sys2Proof.Machine
end

