-- ==== Sys2Proof/Machine/Restart.lean ====
section
/-! DEFINITION. The restart: the steps every block takes at its beginning, and those it takes at its completion (R186), and
the power-on reset. -/

namespace Sys2Proof.Machine

/-- The Notice Queue's restart: every held notice discarded, RESTARTED posted (R177). -/
def State.restartNotices (s : State) (cause : RestartCause) : State :=
  (s.withNotices { s.notices with held := [] }).post (.restarted cause s.notices.held.length) .none

/-- An element at a restart: UP becomes UNVERIFIED, the miss count 0 (R91). -/
def PollRecord.restart (p : PollRecord) : PollRecord :=
  { p with misses := 0, state := if p.state = .up then .unverified else p.state }

/-- The Poll Engine's restart, steps 1 to 4 of R91: the poll in flight abandoned, the Verify List rebuilt in index order. -/
def State.restartPolling (s : State) : State :=
  let es := s.plant.elements.map (fun _ e => e.mapPoll PollRecord.restart)
  (s.withPlant { s.plant with elements := es }).withPoll
    { s.poll with
      flight := none
      verify := (es.entries.filter (fun p =>
        decide (p.2.role.poll?.map (fun q => q.state) = some .unverified))).map (fun p => p.1) }

/-- An order at a restart: a SENT one becomes QUEUED in place and takes its follow-on (R109). -/
def Order.restart (o : Order) : Order :=
  if o.state = .sent then ({ o with state := .queued }).applyFollowOn else o

/-- The Order Engine's restart (R109). -/
def OrderEngine.restart (e : OrderEngine) : OrderEngine := { queue := e.queue.map Order.restart, flight := none }

/-- A DISABLE entry lost to a restart is counted and reported (R127 step 5). -/
def State.loseDisable (s : State) : ExpediteEntry → State
  | .disable a => (s.withDown s.down.countDrop).post .disableLost (.converter a)
  | _ => s

/-- The Downstream Scheduler's restart (R127). -/
def State.restartDownstream (s : State) : State :=
  s.down.expedite.foldl State.loseDisable
    (s.withDown { s.down with transmission := none, orderRun := 0, mapGap := 0, cursor := 0, phase := .time,
                              lastChannel := none, expedite := [] })

/-- The Accrual Engine's restart: an accrual walk is abandoned and its tick lost; a period walk is kept (R159). -/
def State.restartAccrual (s : State) : State :=
  match s.accrual.walk with
  | .accrual tick =>
    (s.withAccrual { s.accrual with walk := .none, position := 0 }).post
      (.lostTick tick (some s.accrual.position)) .none
  | _ => s

/-- The Upstream Receiver's restart: the frame being taken in is abandoned, the window closed with no outcome, the late mark
absent, the counters kept (R140). -/
def Upstream.restart (u : Upstream) : Upstream :=
  { u with window := none, late := none, reception := u.reception.restart }

/-- A restart begins: every block's restart steps, taken together (R186). The held response is gone, and a select period
that is running is abandoned (R179). The order in which its notices are posted is DEDUCED (entry 9). -/
def State.beginRestart (cause : RestartCause) (s : State) : State :=
  let s1 := ((s.withResponse none).withSelect s.select.restart).restartNotices cause
  let s2 := (s1.withPlant s1.plant.restart).restartPolling
  let s3 := s2.withOrders s2.orders.restart
  let s4 := (s3.restartDownstream).restartAccrual
  (s4.withUp s4.up.restart).withRestarting true

/-- The Accrual Engine at the completion of a restart: a kept period walk goes on; otherwise the next walk is chosen
(R159). -/
def State.resumeAccrual (s : State) : State :=
  match s.accrual.walk with
  | .period _ _ _ _ => s
  | _ => s.chooseWalk

/-- The restart completes: a new round begins (R91), a re-derive walk begins (R72), the Accrual Engine resumes (R159), and
with the System Code set the arbiter makes its first choice (R127). That this choice comes last of the four, and so sees the
new round, is a DESIGN CHOICE, unsafe (entry 32). -/
def State.finishRestart (s : State) : State :=
  let s1 := (s.withRestarting false).withPoll s.poll.beginRound
  let s2 := s1.beginWalk.resumeAccrual
  if s2.silent then s2 else s2.arbitrate

/-- Power-on reset: every block at its power-on values, the bit rate from the straps. The level of the RESET pin is the
board's (DESIGN CHOICE: entry 11), and the queue of commands is not the part's. -/
def State.powerOn (straps : Nat) (s : State) : State :=
  ((State.reset.withRate (rateOf straps)).withPinHeld s.pinHeld).withPending s.pending

end Sys2Proof.Machine
end

