-- ==== Sys2Proof/Machine/Exchange.lean ====
section
/-! DEFINITION. How a request reaches its owner through the Management Port (R178, R179). -/

namespace Sys2Proof.Machine

/-- The response buffer is emptied by a complete read, and READY falls (R179 step 1). -/
def State.emptyBuffer (s : State) : State := s.withResponse none

/-- The held response is the OK of a RESTART (R186). -/
def State.restartHeld (s : State) : Bool :=
  match s.response with
  | some r => r.startsRestart
  | none => false

/-- The release of select: the Management Port is idle again. A select period that ends while a restart is in progress, that
a restart has abandoned or that began in one has its data in discarded (R179, R186; that one which begins in a restart and
ends after its completion is discarded is DEDUCED, unsafe: entry 28). -/
def State.release (take : State → State) (s : State) : State :=
  let s1 := s.withSelect .idle
  if s.restarting ∨ s.select = .abandoned then s1 else take s1

/-- One request in a select period in which the host reads the held response, if any, to its end (R179; DESIGN CHOICE,
entry 1). Reading the OK of a RESTART begins the restart, and the request is discarded with the select period (R186,
entry 10). Otherwise the request is taken whole and its response composed. -/
def State.exchange (tag : Nat) (request : Request) (s : State) : State :=
  s.release (fun s =>
    if s.restartHeld then s.beginRestart .request
    else State.respond tag (request s.emptyBuffer))

end Sys2Proof.Machine
end

