-- ==== Sys2Proof/Machine/Accounts.lean ====
section
/-! DEFINITION. The requests and the walks of the Accrual Engine (08_charge_accrual.md, 09_period_start_and_statements.md). -/

namespace Sys2Proof.Machine

/-- SET THRESHOLD (R155). -/
def setThreshold (ticks : Nat) : Request := fun s =>
  if 192 < ticks then refuse .range s
  else done (.thresholds s.accrual.threshold ticks) (s.withAccrual { s.accrual with staged := ticks })

/-- What READ ACCRUAL returns (R157). -/
def State.accrualView (s : State) : AccrualView where
  length := s.accrual.length
  sequence := s.accrual.sequence
  threshold := s.accrual.threshold
  staged := s.accrual.staged
  previous := s.accrual.walk.previous?
  walk := s.accrual.walk.name
  position := s.accrual.position
  tick := s.accrual.walk.tick?
  pendingPeriod := s.accrual.pendingPeriod
  closing := s.accrual.walk.closing
  pendingTick := s.accrual.pendingTick

/-- READ ACCRUAL (R157). -/
def readAccrual : Request := fun s => done (.accrual s.accrualView) s

/-- The request is accepted: its work continues after the response (R2). -/
def accepted (v : Values) (s : State) : State × Reply :=
  (s, { status := .accepted, reason := none, values := v, startsRestart := false })

/-- START PERIOD (R160, R161). -/
def startPeriod (days : Nat) : Request := fun s =>
  if ¬ within 28 31 days then refuse .range s
  else if s.clock.isSet = false then refuse .unset s
  else if s.accrual.pendingPeriod.isSome then refuse .busy s
  else match s.accrual.walk with
    | .period _ _ _ _ => refuse .busy s
    | .none => accepted (.period ((s.accrual.sequence + 1) % 256) days true) (s.changeover days)
    | .accrual _ =>
      accepted (.period ((s.accrual.sequence + 1) % 256) days false)
        (s.withAccrual { s.accrual with pendingPeriod := some days })

/-- TAKE STATEMENT (R167). -/
def takeStatement (slot : Nat) : Request := fun s =>
  if Config.slots ≤ slot then refuse .range s
  else match s.slot? slot with
    | none => refuse .vacant s
    | some r =>
      match r.statement with
      | none => refuse .state s
      | some st => done (.statement st r.account) (s.setSlot slot { r with statement := none })

/-- ACCRUAL_VISIT: the running accrual walk visits its next non-vacant slot (R147). With no such walk, or no slot left,
there is no visit (DESIGN CHOICE: entries 2 and 6). -/
def State.accrualVisit (s : State) : State :=
  match s.accrual.walk, s.nextSlot s.accrual.position with
  | .accrual tick, some (n, r) => s.accrualStep tick n r
  | _, _ => s

/-- ACCRUAL_WALK_END: the accrual walk passes slot 4,095, and the next walk is chosen (R146). -/
def State.accrualEnd (s : State) : State :=
  match s.accrual.walk, s.nextSlot s.accrual.position with
  | .accrual _, none => s.chooseWalk
  | _, _ => s

/-- PERIOD_VISIT: the running period walk visits its next non-vacant slot (R162); none while a restart is in progress
(R159). -/
def State.periodVisit (s : State) : State :=
  if s.restarting then s
  else match s.accrual.walk, s.nextSlot s.accrual.position with
    | .period previous closing closed merged, some (n, r) => s.periodStep previous closing closed merged n r
    | _, _ => s

/-- PERIOD DONE is posted (R166 step 1). -/
def State.postPeriodDone (s : State) (closed merged : Nat) : State :=
  s.post (.periodDone s.accrual.sequence (s.accrual.length.getD 0) closed merged) .none

/-- PERIOD_WALK_END: the period walk passes slot 4,095: PERIOD DONE, the previous threshold gone with the walk, the next
walk chosen (R166). -/
def State.periodEnd (s : State) : State :=
  if s.restarting then s
  else match s.accrual.walk, s.nextSlot s.accrual.position with
    | .period _ _ closed merged, none => (s.postPeriodDone closed merged).chooseWalk
    | _, _ => s

-- the commands

/-- SET_THRESHOLD (R155): Stages a new credit threshold for the next changeover. -/
def execSetThreshold (tag ticks : Nat) (s : State) : Host.Outcome State Fault Refusal :=
  .next (s.exchange tag (setThreshold ticks))

/-- READ_ACCRUAL (R157): Returns the Accrual Engine's period, threshold and walk state. -/
def execReadAccrual (tag : Nat) (s : State) : Host.Outcome State Fault Refusal :=
  .next (s.exchange tag readAccrual)

/-- START_PERIOD (R160): Ends the open period and opens a new one of length P, starting the period walk at once or
making it pending. -/
def execStartPeriod (tag days : Nat) (s : State) : Host.Outcome State Fault Refusal :=
  .next (s.exchange tag (startPeriod days))

/-- TAKE_STATEMENT (R167): Returns a record's statement and removes it. -/
def execTakeStatement (tag slot : Nat) (s : State) : Host.Outcome State Fault Refusal :=
  .next (s.exchange tag (takeStatement slot))

/-- ACCRUAL_VISIT (R147): An accrual walk visits one non-vacant slot, prunes its purchase list and applies the lit, dark
or not-eligible case. -/
def execAccrualVisit (s : State) : Host.Outcome State Fault Refusal :=
  .next s.accrualVisit

/-- ACCRUAL_WALK_END (R146): An accrual walk passes slot 4,095 and the next walk is chosen: the pending period walk, a
pending tick, or none. -/
def execAccrualWalkEnd (s : State) : Host.Outcome State Fault Refusal :=
  .next s.accrualEnd

/-- PERIOD_VISIT (R162): A period walk visits one slot: it prunes, closes the record, brings its spell under the new
threshold, moves its tag and recomputes its weight. -/
def execPeriodVisit (s : State) : Host.Outcome State Fault Refusal :=
  .next s.periodVisit

/-- PERIOD_WALK_END (R166): The period walk passes slot 4,095, posts INFO PERIOD DONE, clears the previous threshold and
chooses the next walk. -/
def execPeriodWalkEnd (s : State) : Host.Outcome State Fault Refusal :=
  .next s.periodEnd

end Sys2Proof.Machine
end

