-- ==== Sys2Proof/Machine/Host.lean ====
section
/-! DEFINITION. The requests of the Notice Queue, the clock and the identity, READ STATUS and RESTART
(10_notices_and_the_alarm_line.md, 11_management_port_clock_and_identity.md). -/

namespace Sys2Proof.Machine

/-- TAKE NOTICE (R174). -/
def takeNotice : Request := fun s =>
  let p := highestPriority s.notices.held
  match s.notices.held.find? (fun n => decide (n.body.priority = p)) with
  | none =>
    (s, { status := .vacant, reason := none, values := .lost s.notices.lost, startsRestart := false })
  | some n =>
    let held := removeOldest p s.notices.held
    done (.notice n held.length s.notices.lost) (s.withNotices { s.notices with held := held, lost := 0 })

/-- SET ALARM LEVEL (R175, R176). -/
def setAlarmLevel (level : Nat) : Request := fun s =>
  match Priority.ofCode? level with
  | none => refuse .range s
  | some p =>
    let s1 := s.withNotices { s.notices with level := p }
    done (.alarm s.notices.level p s1.alarm) s1

/-- SET SYSTEM CODE (R185): LOCKED once a code is set, whatever the operand (DEDUCED: entry 8). The transmitter makes its
first choice (R110). -/
def setSystemCode (code : Nat) : Request := fun s =>
  if s.systemCode.isSome then refuse .locked s
  else if ¬ within 1 65535 code then refuse .range s
  else done (.systemCode code) (s.withSystemCode (some code)).arbitrate

/-- The last tick minute of a clock set to a minute number: the greatest tick minute strictly below it (R184). -/
def tickBelow (minute : Nat) : Option Nat := if minute = 0 then none else some (tickAt (minute - 1))

/-- The clock set, or trimmed (R184). -/
def State.setClock (minute : Nat) (s : State) : State :=
  if s.clock.isSet then
    (if minute = s.clock.minute then s.withClock { s.clock with seconds := 0 }
     else (s.withClock { s.clock with minute := minute, seconds := 0 }).offerMinute)
  else (s.withClock { minute := minute, seconds := 0, isSet := true, lastTick := tickBelow minute }).offerMinute

/-- SET TIME (R184). -/
def setTime (minute : Nat) : Request := fun s =>
  if Config.max32 < minute then refuse .range s
  else if s.clock.isSet ∧ ¬ (minute ≤ s.clock.minute + 2 ∧ s.clock.minute ≤ minute + 2) then refuse .range s
  else done (.time minute true) (s.setClock minute)

/-- What READ STATUS returns (R187). -/
def State.statusView (s : State) : StatusView where
  minute := s.clock.minute
  seconds := s.clock.seconds
  clockSet := s.clock.isSet
  lastTick := s.clock.lastTick
  systemCode := s.systemCode
  periodOpen := s.accrual.length.isSome
  sequence := s.accrual.sequence
  walk := s.accrual.walk.name
  periodPending := s.accrual.pendingPeriod.isSome
  tickPending := s.accrual.pendingTick.isSome
  editor := s.lineUp.editor.name
  current := s.lineUp.current.number
  next := s.lineUp.editor.next?.map (fun g => g.number)
  switchover := s.lineUp.editor.minute?
  plantWalk := s.plant.walk.running
  rederive := s.plant.rederive
  subscribers := s.subs.slots.size
  orders := s.orders.queue.length
  notices := s.notices.held.length
  lost := s.notices.lost
  alarm := s.alarm
  level := s.notices.level

/-- READ STATUS (R187). -/
def readStatus : Request := fun s => done (.status s.statusView) s

/-- RESTART: answered OK; the restart begins when that response has been read (R186). -/
def restartRequest : Request := fun s =>
  (s, { status := .ok, reason := none, values := .none, startsRestart := true })

/-- SECOND_TICK: the seconds count increases by 1, and passing 59 is the minute event (R182). -/
def State.secondPasses (s : State) : State :=
  if s.clock.seconds < 59 then s.withClock { s.clock with seconds := s.clock.seconds + 1 } else s.minutePasses

-- the commands

/-- TAKE_NOTICE (R174): Removes and returns the oldest notice of the highest priority, with the lost-notice count, and
clears that count. -/
def execTakeNotice (tag : Nat) (s : State) : Host.Outcome State Fault Refusal :=
  .next (s.exchange tag takeNotice)

/-- SET_ALARM_LEVEL (R175): Sets the alarm level and updates the ALARM line. -/
def execSetAlarmLevel (tag level : Nat) (s : State) : Host.Outcome State Fault Refusal :=
  .next (s.exchange tag (setAlarmLevel level))

/-- SET_SYSTEM_CODE (R185): Sets and locks the write-once System Code, after which the transmitter starts. -/
def execSetSystemCode (tag code : Nat) (s : State) : Host.Outcome State Fault Refusal :=
  .next (s.exchange tag (setSystemCode code))

/-- SET_TIME (R184): Sets the Minute Clock, or trims it by at most 2 minutes, and offers the new minute number to its
readers. -/
def execSetTime (tag minute : Nat) (s : State) : Host.Outcome State Fault Refusal :=
  .next (s.exchange tag (setTime minute))

/-- READ_STATUS (R187): Returns a summary of the clock, identity, accrual, line-up, plant, tables and lines. -/
def execReadStatus (tag : Nat) (s : State) : Host.Outcome State Fault Refusal :=
  .next (s.exchange tag readStatus)

/-- RESTART (R186): Answers OK; the restart begins when that response has been read. -/
def execRestart (tag : Nat) (s : State) : Host.Outcome State Fault Refusal :=
  .next (s.exchange tag restartRequest)

/-- SECOND_TICK (R182): The seconds count of the Minute Clock increases by 1 each second. -/
def execSecondTick (s : State) : Host.Outcome State Fault Refusal :=
  .next s.secondPasses

/-- MINUTE_EVENT (R182): The seconds count passes 59, and the minute number increases and is offered to the clock's
readers. -/
def execMinuteEvent (s : State) : Host.Outcome State Fault Refusal :=
  .next s.minutePasses

end Sys2Proof.Machine
end

