-- ==== Sys2Proof/Machine/Layout.lean ====
section
/-! DEFINITION. The frames the part sends: the codes of named values, the bytes of a held response (R188, R190) and of a
downstream frame (R192). Where R190 leaves a layout to "the order the owning rule lists", the layout is the model's
(DESIGN CHOICE, unsafe: entry 14). -/

namespace Sys2Proof.Machine

-- codes (R188, R190, R192)

/-- A two-valued flag. -/
def flagByte (b : Bool) : List Byte := be 1 b.toNat

/-- The code of a status (R190). -/
def Status.code : Status → Nat
  | .ok => 0
  | .accepted => 1
  | .busy => 2
  | .badRequest => 3
  | .range => 4
  | .vacant => 5
  | .exists => 6
  | .state => 7
  | .full => 8
  | .locked => 9
  | .unset => 10
  | .invalid => 11
  | .referenced => 12

/-- The code of a reason (R190). -/
def Reason.number : Reason → Nat
  | .tier => 1
  | .tap => 2
  | .port => 3
  | .charges => 4
  | .statement => 5
  | .empty => 6
  | .lead => 7
  | .carrier => 8
  | .offer => 9
  | .times => 10
  | .holders => 11
  | .channel => 12
  | .parent => 13
  | .children => 14
  | .order => 15
  | .kind => 16
  | .window => 17
  | .length => 18
  | .check => 19
  | .code => 20

/-- The code of a subscriber state; 0 is VACANT. -/
def ServiceState.code : ServiceState → Nat
  | .prepared => 1
  | .active => 2
  | .suspended => 3
  | .disconnected => 4

/-- The code of an element kind. -/
def ElementKind.code : ElementKind → Nat
  | .node => 0
  | .amplifier => 1
  | .tap => 2
  | .root => 3

/-- The code of a setting as ordered. -/
def Setting.code : Setting → Nat
  | .off => 0
  | .limited => 1
  | .full => 2

/-- The code of a setting as confirmed. -/
def Confirmed.code : Confirmed → Nat
  | .off => 0
  | .limited => 1
  | .full => 2
  | .unknown => 3
  | .fault => 4

/-- The code of an order state. -/
def OrderState.code : OrderState → Nat
  | .queued => 0
  | .held => 1
  | .sent => 2

/-- The code of a poll state. -/
def PollState.code : PollState → Nat
  | .off => 0
  | .unverified => 1
  | .up => 2
  | .failed => 3
  | .shadowed => 4

/-- The code of a level state. -/
def LevelState.code : LevelState → Nat
  | .normal => 0
  | .low => 1
  | .high => 2

/-- The code of a power state. -/
def PowerState.code : PowerState → Nat
  | .mains => 0
  | .standby => 1
  | .unknown => 2

/-- The code of a RESTORED reason. -/
def RestoreReason.code : RestoreReason → Nat
  | .answer => 0
  | .withdrawn => 1

/-- The code of a notice-owed mark. -/
def Mark.code : Mark → Nat
  | .none => 0
  | .outage => 1
  | .restored r => 2 + r.code

/-- The code of a generation. -/
def GenerationName.code : GenerationName → Nat
  | .current => 0
  | .next => 1

/-- The code of an editor state. -/
def EditorName.code : EditorName → Nat
  | .idle => 0
  | .editing => 1
  | .scheduled => 2

/-- The code of the walk running. -/
def WalkName.code : WalkName → Nat
  | .none => 0
  | .accrual => 1
  | .period => 2

/-- The code of the kind of a window owner or late mark. -/
def WindowKind.code : WindowKind → Nat
  | .poll => 0
  | .order => 1

/-- The code of a stream. -/
def Stream.code : Stream → Nat
  | .order => 0
  | .poll => 1
  | .map => 2
  | .expedite => 3
  | .carousel => 4

/-- The code of a map cursor phase. -/
def MapPhase.code : MapPhase → Nat
  | .time => 0
  | .current => 1
  | .next => 2

/-- The code of a DECLINE reason (R192). -/
def DeclineReason.code : DeclineReason → Nat
  | .notActive => 1
  | .noOffer => 2
  | .window => 3
  | .tier => 4
  | .listFull => 5
  | .ceiling => 6

/-- The code of a priority. -/
def Priority.code : Priority → Nat
  | .urgent => 0
  | .routine => 1
  | .info => 2

/-- The code of an ORDER FAILED reason. -/
def OrderFailure.code : OrderFailure → Nat
  | .portFault => 0
  | .noAnswer => 1

/-- The code of a RESTARTED cause. -/
def RestartCause.code : RestartCause → Nat
  | .resetPin => 0
  | .request => 1

/-- The code of a notice kind. -/
def NoticeBody.code : NoticeBody → Nat
  | .outage _ _ => 0
  | .restored _ _ _ => 1
  | .power _ _ => 2
  | .restarted _ _ => 3
  | .level _ _ _ _ => 4
  | .orderFailed _ _ _ _ _ _ => 5
  | .disableLost => 6
  | .saturated _ _ => 7
  | .periodDone _ _ _ _ => 8
  | .switchoverDone _ => 9
  | .lostTick _ _ => 10

/-- The kind code of a downstream frame (R192). -/
def DownFrame.code : DownFrame → Nat
  | .auth _ _ _ _ _ _ => 1
  | .disable _ => 2
  | .decline _ _ _ _ => 3
  | .mapCurrent _ _ _ => 4
  | .mapNext _ _ _ _ => 4
  | .time _ _ _ => 5
  | .poll _ _ _ => 6
  | .order _ _ _ _ => 7

/-- The kind code of a frame's subject. -/
def FrameSubject.code : FrameSubject → Nat
  | .auth _ => 1
  | .disable _ => 2
  | .decline _ _ => 3
  | .map _ _ => 4
  | .time => 5
  | .poll _ => 6
  | .order _ => 7

-- optional fields (R188)

/-- An optional field whose range does not hold 0: absent is 0. -/
def orZero (w : Nat) : Option Nat → List Byte
  | some n => be w n
  | none => be w 0

/-- An optional field whose range holds 0 and not all ones: absent is all ones. -/
def orOnes (w : Nat) : Option Nat → List Byte
  | some n => be w n
  | none => be w (256 ^ w - 1)

/-- An optional field whose range holds both: a presence flag, and 0 when absent. -/
def flagged (w : Nat) : Option Nat → List Byte
  | some n => flagByte true ++ be w n
  | none => flagByte false ++ be w 0

/-- A list of varying length: its count in 1 byte, and its entries (R190). -/
def counted {α : Type} (f : α → List Byte) (l : List α) : List Byte := be 1 l.length ++ l.flatMap f

-- values of responses

/-- A statement's seven fields (R164), each as wide as its range needs (R188). R190 gives statement sums 4 bytes: that those are
the two sums of cents alone, the purchase count taking 1 byte and the charged and credited ticks 2 each, is a DESIGN CHOICE,
unsafe (entry 14). -/
def Statement.bytes (st : Statement) : List Byte :=
  be 4 st.service ++ be 4 st.purchases ++ be 1 st.purchaseCount ++ be 2 st.charged ++ be 2 st.credited
    ++ be 1 st.merged ++ be 1 st.closing

/-- A tap port, absent as tap 0 and port 0 (R191). -/
def portBytes : Option PortRef → List Byte
  | some p => be 2 p.tap ++ be 1 p.port
  | none => be 2 0 ++ be 1 0

/-- The fields of R3 in the order of its table, the statement's fields when present, then what the Plant Tree gives for an
assigned port (R29). -/
def Subscriber.bytes (r : Subscriber) (view : Option (Confirmed × Bool)) : List Byte :=
  be 1 r.state.code ++ be 4 r.account ++ orZero 3 r.converter ++ portBytes r.port ++ be 4 r.tiers.toNat
    ++ be 2 r.ceiling ++ counted (be 2) r.purchases ++ be 2 r.purchaseTotal ++ be 1 r.purchaseCount
    ++ be 1 r.periodTag ++ be 5 r.weight ++ be 6 r.accumulator ++ flagByte r.saturated ++ be 6 r.held
    ++ be 2 r.spell ++ be 2 r.charged ++ be 2 r.credited
    ++ (match r.statement with
        | some st => flagByte true ++ st.bytes
        | none => flagByte false)
    ++ (match view with
        | some (c, dark) => be 1 c.code ++ flagByte dark
        | none => [])

/-- A Tier Table entry (R30, R35); an undefined one is all zero. -/
def tierBytes : Option Tier → List Byte
  | some t => flagByte true ++ be 2 t.currentRate ++ be 2 t.nextRate ++ be 4 t.currentQ ++ be 4 t.previousQ
      ++ be 2 t.holders
  | none => flagByte false ++ be 2 0 ++ be 2 0 ++ be 4 0 ++ be 4 0 ++ be 2 0

/-- A channel record in the order of R36. -/
def Channel.bytes (number : Nat) (c : Channel) : List Byte :=
  be 2 number ++ be 1 c.carrier ++ be 1 c.program ++ be 1 c.kind.code ++ be 1 c.tier

/-- An offer in the order of R48. -/
def Offer.bytes (o : Offer) : List Byte :=
  be 2 o.event ++ be 2 o.channel ++ be 2 o.price ++ be 1 o.tier ++ be 4 o.opens ++ be 4 o.closes ++ be 4 o.airEnd

/-- The fields of R55 that only a node or amplifier has. -/
def PollRecord.bytes (p : PollRecord) : List Byte :=
  flagByte p.enable ++ be 1 p.state.code ++ be 1 p.misses ++ beSigned p.low ++ beSigned p.high ++ be 1 p.hysteresis
    ++ be 1 p.levelState.code ++ beSigned p.lastLevel ++ be 1 p.power.code

/-- A port record (R58). -/
def PortRecord.bytes (p : PortRecord) : List Byte := be 1 p.confirmed.code ++ orOnes 2 p.link

/-- An element in the order of R55. That the fields only a node or amplifier has are left out for a tap, and the list of ports
for a node or amplifier, neither with a flag, is a DESIGN CHOICE, unsafe (entry 14). -/
def Element.bytes (e : Element) : List Byte :=
  be 1 e.role.kind.code ++ be 2 e.parent ++ orZero 2 e.firstChild ++ orZero 2 e.nextSibling ++ be 1 e.group
    ++ be 1 e.member ++ flagByte e.dark ++ flagByte e.shadow ++ be 1 e.mark.code ++ be 4 e.failMinute
    ++ (match e.role with
        | .node p => p.bytes
        | .amplifier p => p.bytes
        | .tap ports => counted PortRecord.bytes ports)

/-- What READ POLLING returns (R75). The poll in flight is one optional field, whose range does not hold 0, as no element
it names has index 0: absent is 0 in its 4 bytes (R188). -/
def PollingView.bytes (v : PollingView) : List Byte :=
  be 1 v.timeout ++ be 1 v.missLimit ++ be 2 v.roundPeriod ++ be 2 v.position ++ be 2 v.periodInForce
    ++ flagByte v.expired ++ flagByte v.due ++ be 2 v.verifyCount ++ orZero 2 v.verifyHead
    ++ (match v.flight with
        | some f => be 2 f.element ++ flagByte f.opened ++ flagByte f.void
        | none => be 4 0)

/-- An order in the order of R93. -/
def Order.bytes (o : Order) : List Byte :=
  be 2 o.tap ++ be 1 o.port ++ be 1 o.setting.code ++ be 1 o.state.code ++ be 1 o.attempts ++ orOnes 2 o.origin
    ++ orOnes 1 (o.followOn.map (fun x => x.code))

/-- What READ ORDER returns (R107). -/
def OrderView.bytes (v : OrderView) : List Byte :=
  v.order.bytes ++ be 1 v.group ++ be 1 v.member ++ be 1 v.count
    ++ (match v.sent with
        | some (holds, opened) => be 1 holds ++ flagByte opened
        | none => [])

/-- The kind and the subject of a frame (R110): the kind's code, then the numbers its subject has, none for a TIME frame
(DESIGN CHOICE, unsafe: entry 14); the generation of a MAP frame is the code of CURRENT or NEXT (DESIGN CHOICE, unsafe:
entry 31). -/
def FrameSubject.bytes (f : FrameSubject) : List Byte :=
  be 1 f.code ++
    (match f with
     | .auth slot => be 2 slot
     | .disable address => be 3 address
     | .decline slot event => be 2 slot ++ be 2 event
     | .map generation number => be 1 generation.code ++ be 2 number
     | .time => []
     | .poll element => be 2 element
     | .order tap => be 2 tap)

/-- An entry of the Expedite List (R119): the kind's code, then the numbers the kind has (DESIGN CHOICE, unsafe: entry 14). -/
def ExpediteEntry.bytes : ExpediteEntry → List Byte
  | .refresh slot => be 1 0 ++ be 2 slot
  | .disable address => be 1 1 ++ be 3 address
  | .decline slot event reason => be 1 2 ++ be 2 slot ++ be 2 event ++ be 1 reason.code

/-- What READ DOWNSTREAM returns (R126). The frame in transmission is one optional field, whose range does not hold 0, as no
kind has code 0: absent is 0 (R188) in the 2 bytes of stream and kind, since no kind gives its subject a width (DESIGN
CHOICE: entry 14). -/
def DownstreamView.bytes (v : DownstreamView) : List Byte :=
  flagByte v.silent
    ++ (match v.frame with
        | some (stream, subject) => be 1 stream.code ++ subject.bytes
        | none => be 2 0)
    ++ flagByte v.windowFree ++ be 1 v.orderRun ++ be 1 v.mapGap ++ be 2 v.cursor ++ be 2 v.passes
    ++ be 1 v.phase.code ++ orZero 2 v.lastChannel ++ counted ExpediteEntry.bytes v.expedite

/-- The six discard counters in the order of R134. -/
def Counters.bytes (c : Counters) : List Byte :=
  be 2 c.badCheck ++ be 2 c.wrongSystem ++ be 2 c.malformed ++ be 2 c.late ++ be 2 c.unmatched
    ++ be 2 c.unknownConverter

/-- The Reply Window's state, owner and address (R130). Owner and address have values only while OPEN; of a CLOSED window
the owner is 0 in its 3 bytes, since its range does not hold 0, and the address all ones in its 2, since its range holds 0
and not all ones (R188). -/
def windowBytes : Option ReplyWindow → List Byte
  | some w => flagByte true ++ be 1 w.kind.code ++ be 2 w.element ++ be 1 w.group ++ be 1 w.member
  | none => flagByte false ++ be 3 0 ++ be 2 65535

/-- The late mark (R130): its range holds 0 and not all ones, so absent is all ones in its 3 bytes (R188). -/
def lateBytes : Option LateMark → List Byte
  | some m => be 1 m.kind.code ++ be 1 m.group ++ be 1 m.member
  | none => be 3 16777215

/-- What READ ACCRUAL returns (R157): P and T absent as 0, since no period is of length 0. -/
def AccrualView.bytes (v : AccrualView) : List Byte :=
  flagByte v.length.isSome ++ be 1 v.sequence ++ orZero 1 v.length ++ orZero 2 (v.length.map ticksOf)
    ++ be 1 v.threshold ++ be 1 v.staged ++ orOnes 1 v.previous ++ be 1 v.walk.code ++ be 2 v.position
    ++ flagged 4 v.tick ++ flagByte v.pendingPeriod.isSome ++ orZero 1 v.pendingPeriod ++ flagByte v.closing
    ++ flagged 4 v.pendingTick

/-- A notice's subject (R170): the code of its kind, then its value in the width of that kind, and nothing more for none
(DESIGN CHOICE, unsafe: entry 14). -/
def Subject.bytes : Subject → List Byte
  | .none => be 1 0
  | .element i => be 1 1 ++ be 2 i
  | .slot n => be 1 2 ++ be 2 n
  | .converter a => be 1 3 ++ be 3 a
  | .tapPort tap port => be 1 4 ++ be 2 tap ++ be 1 port

/-- The values of a notice by its kind (R171). -/
def NoticeBody.bytes : NoticeBody → List Byte
  | .outage homes failMinute => be 2 homes ++ be 4 failMinute
  | .restored homes duration reason => be 2 homes ++ be 4 duration ++ be 1 reason.code
  | .power now before => be 1 now.code ++ be 1 before.code
  | .restarted cause discarded => be 1 cause.code ++ be 1 discarded
  | .level state L low high => be 1 state.code ++ beSigned L ++ beSigned low ++ beSigned high
  | .orderFailed reason tap port setting origin written =>
      be 1 reason.code ++ be 2 tap ++ be 1 port ++ be 1 setting.code ++ orOnes 2 origin ++ be 1 written.code
  | .disableLost => []
  | .saturated periodTag tick => be 1 periodTag ++ be 4 tick
  | .periodDone sequence days closed merged => be 1 sequence ++ be 1 days ++ be 2 closed ++ be 2 merged
  | .switchoverDone generation => be 1 generation
  | .lostTick tick firstSlot => be 4 tick ++ flagByte firstSlot.isSome ++ orOnes 2 firstSlot

/-- A notice in the order of R170. -/
def Notice.bytes (n : Notice) : List Byte :=
  be 1 n.body.code ++ be 1 n.body.priority.code ++ n.subject.bytes ++ be 4 n.first ++ be 4 n.last ++ be 1 n.count
    ++ n.body.bytes

/-- What READ STATUS returns (R187). -/
def StatusView.bytes (v : StatusView) : List Byte :=
  be 4 v.minute ++ be 1 v.seconds ++ flagByte v.clockSet ++ flagged 4 v.lastTick
    ++ flagByte v.systemCode.isSome ++ orZero 2 v.systemCode
    ++ flagByte v.periodOpen ++ be 1 v.sequence ++ be 1 v.walk.code ++ flagByte v.periodPending
    ++ flagByte v.tickPending
    ++ be 1 v.editor.code ++ be 1 v.current ++ flagged 1 v.next ++ flagged 4 v.switchover
    ++ flagByte v.plantWalk ++ flagByte v.rederive
    ++ be 2 v.subscribers ++ be 1 v.orders ++ be 1 v.notices ++ be 2 v.lost
    ++ flagByte v.alarm ++ be 1 v.level.code

/-- The values of a response in the order its rule lists them (R190). A value that its rule carries in some cases only
(READ CHANNEL's switchover minute, R47; ADD ELEMENT's poll state) is left out in the others, without a presence flag; and
START PERIOD's "begun or pending" is 1 for begun and 0 for pending (R160): DESIGN CHOICES, unsafe (entry 14). -/
def Values.bytes : Values → List Byte
  | .none => []
  | .slot n => be 2 n
  | .offerSlot n => be 1 n
  | .tiers m => be 4 m.toNat
  | .found n state => be 2 n ++ be 1 state.code
  | .subscriber r view => r.bytes view
  | .tier t => tierBytes t
  | .rates current next => be 2 current ++ be 2 next
  | .holders n => be 2 n
  | .channelOf generation number => be 1 generation.code ++ be 2 number
  | .begun generation count => be 1 generation ++ be 1 count
  | .channelCount n => be 1 n
  | .scheduled generation minute => be 1 generation ++ be 4 minute
  | .present minute => be 4 minute
  | .channelNumber n => be 2 n
  | .channelPair lower higher => be 2 lower ++ be 2 higher
  | .offerOn n code number => be 1 n ++ be 2 code ++ be 2 number
  | .channel number c generation count minute =>
      c.bytes number ++ be 1 generation ++ be 1 count ++ (match minute with | some m => be 4 m | Option.none => [])
  | .event n => be 2 n
  | .offer o => o.bytes
  | .added index dark state =>
      be 2 index ++ flagByte dark ++ (match state with | some p => be 1 p.code | Option.none => [])
  | .element n => be 2 n
  | .port n => be 1 n
  | .elementAt index kind => be 2 index ++ be 1 kind.code
  | .root firstChild => be 1 ElementKind.root.code ++ orZero 2 firstChild ++ flagByte false ++ flagByte false
  | .elementCopy e => e.bytes
  | .pollSettings timeout missLimit seconds => be 1 timeout ++ be 1 missLimit ++ be 2 seconds
  | .pollState p => be 1 p.code
  | .levelWindow low high hysteresis state last =>
      beSigned low ++ beSigned high ++ be 1 hysteresis ++ be 1 state.code ++ beSigned last
  | .polling v => v.bytes
  | .orderAt state position => be 1 state.code ++ be 1 position
  | .order v => v.bytes
  | .downstream v => v.bytes
  | .counters c drops window late => c.bytes ++ be 2 drops ++ windowBytes window ++ lateBytes late
  | .thresholds inForce staged => be 1 inForce ++ be 1 staged
  | .accrual v => v.bytes
  | .period sequence days started => be 1 sequence ++ be 1 days ++ flagByte started
  | .statement st account => st.bytes ++ be 4 account
  | .notice n stillHeld losses => n.bytes ++ be 1 stillHeld ++ be 2 losses
  | .lost n => be 2 n
  | .alarm before after line => be 1 before.code ++ be 1 after.code ++ flagByte line
  | .systemCode n => be 2 n
  | .time minute isSet => be 4 minute ++ flagByte isSet
  | .status v => v.bytes

/-- The code of a reason, 0 for none (R190). -/
def reasonCode : Option Reason → Nat
  | some r => r.number
  | none => 0

/-- The response frame of a held response (R190). -/
def Response.bytes (r : Response) : List Byte :=
  withCheck (be 1 r.tag ++ be 1 r.status.code ++ be 1 (reasonCode r.reason) ++ be 1 r.overrun.toNat
    ++ be 2 r.values.bytes.length ++ r.values.bytes)

-- downstream frames (R192)

/-- The body of a downstream frame after its kind byte (R192). -/
def DownFrame.body : DownFrame → List Byte
  | .auth _ address enabled generation tiers purchases =>
      be 3 address ++ flagByte enabled ++ be 1 generation ++ be 4 tiers.toNat ++ counted (be 2) purchases
  | .disable address => be 3 address
  | .decline _ address event reason => be 3 address ++ be 2 event ++ be 1 reason.code
  | .mapCurrent generation number c => be 1 0 ++ be 1 generation ++ c.bytes number
  | .mapNext generation number c minute => be 1 1 ++ be 1 generation ++ c.bytes number ++ be 4 minute
  | .time minute clockSet generation => be 4 minute ++ flagByte clockSet ++ be 1 generation
  | .poll _ group member => be 1 group ++ be 1 member
  | .order _ group member actions =>
      be 1 group ++ be 1 member ++ counted (fun a => be 1 a.1 ++ be 1 a.2.code) actions

/-- The bytes of a downstream frame under the System Code (R192). -/
def DownFrame.bytes (code : Nat) (f : DownFrame) : List Byte := withCheck (be 2 code ++ be 1 f.code ++ f.body)

/-- The bytes on the carrier while a frame is in transmission; none while the transmitter is free or silent (R110). -/
def State.carrier (s : State) : Option (List Byte) :=
  match s.systemCode, s.down.transmission with
  | some code, some t => some (t.frame.bytes code)
  | _, _ => none

end Sys2Proof.Machine
end

