-- ==== Sys2Proof/Machine/LineUp.lean ====
section
/-! DEFINITION. The requests of the Tier and Line-up Unit (02_tiers_line_up_and_offers.md). -/

namespace Sys2Proof.Machine

-- tiers

/-- An entry of the Tier Table written. -/
def State.setTier (s : State) (n : Nat) (t : Tier) : State :=
  s.withLineUp { s.lineUp with tiers := s.lineUp.tiers.set n t }

/-- The per-tick rate of a new tier: from the open period's length, 0 with no period open (R31, R142). -/
def State.newQ (s : State) (rate : Nat) : Nat :=
  match s.accrual.length with
  | some days => perTick rate days
  | none => 0

/-- DEFINE TIER (R31). -/
def defineTier (tier rate : Nat) : Request := fun s =>
  if 31 < tier ∨ 65535 < rate then refuse .range s
  else if (s.lineUp.tiers.get? tier).isSome then refuse .exists s
  else
    let t : Tier := { currentRate := rate, nextRate := rate, currentQ := s.newQ rate, previousQ := s.newQ rate,
                      holders := 0 }
    done (.tier (some t)) (s.setTier tier t)

/-- SET TIER RATE (R32). -/
def setTierRate (tier rate : Nat) : Request := fun s =>
  if 31 < tier ∨ 65535 < rate then refuse .range s
  else match s.lineUp.tiers.get? tier with
    | none => refuse .vacant s
    | some t => done (.rates t.currentRate rate) (s.setTier tier { t with nextRate := rate })

/-- The lowest channel of a generation that names a tier (R34). -/
def Generation.naming (g : Generation) (tier : Nat) : Option Nat :=
  (g.channels.find? (fun _ c => c.tier == tier)).map (fun p => p.1)

/-- The reference that refuses UNDEFINE TIER: holders, a channel of CURRENT, a channel of NEXT, an offer, in that order
(R34). -/
def LineUp.reference (l : LineUp) (tier : Nat) (t : Tier) : Option (Reason × Values) :=
  if t.holders ≠ 0 then some (.holders, .holders t.holders)
  else match l.current.naming tier with
    | some n => some (.channel, .channelOf .current n)
    | none =>
      match l.editor.next?.bind (fun g => g.naming tier) with
      | some n => some (.channel, .channelOf .next n)
      | none =>
        match l.offers.find? (fun _ o => o.tier == tier) with
        | some (n, _) => some (.offer, .offerSlot n)
        | none => none

/-- UNDEFINE TIER (R34). -/
def undefineTier (tier : Nat) : Request := fun s =>
  if 31 < tier then refuse .range s
  else match s.lineUp.tiers.get? tier with
    | none => refuse .vacant s
    | some t =>
      match s.lineUp.reference tier t with
      | some (reason, values) => refuseFor .referenced reason values s
      | none => done .none (s.withLineUp { s.lineUp with tiers := s.lineUp.tiers.erase tier })

/-- READ TIER (R35). -/
def readTier (tier : Nat) : Request := fun s =>
  if 31 < tier then refuse .range s else done (.tier (s.lineUp.tiers.get? tier)) s

-- the editor

/-- The editor written. -/
def State.setEditor (s : State) (e : Editor) : State := s.withLineUp { s.lineUp with editor := e }

/-- BEGIN EDIT (R38). -/
def beginEdit : Request := fun s =>
  match s.lineUp.editor with
  | .idle =>
    let g : Generation := { number := (s.lineUp.current.number + 1) % 256, channels := s.lineUp.current.channels }
    done (.begun g.number g.channels.size) (s.setEditor (.editing g))
  | _ => refuse .state s

/-- PUT CHANNEL (R39). -/
def putChannel (number carrier program kind tier : Nat) : Request := fun s =>
  match ChannelKind.ofCode? kind with
  | none => refuse .range s
  | some k =>
    if ¬ within 2 999 number ∨ ¬ within 2 158 carrier ∨ 15 < program ∨ 31 < tier then refuse .range s
    else match s.lineUp.editor with
      | .editing g =>
        if (s.lineUp.tiers.get? tier).isNone then refuseFor .invalid .tier .none s
        else if (g.channels.get? number).isNone ∧ Config.channels ≤ g.channels.size then refuse .full s
        else
          let c : Channel := { carrier := carrier, program := program, kind := k, tier := tier }
          let g' := { g with channels := g.channels.set number c }
          done (.channelCount g'.channels.size) (s.setEditor (.editing g'))
      | _ => refuse .state s

/-- DROP CHANNEL (R40). -/
def dropChannel (number : Nat) : Request := fun s =>
  if ¬ within 2 999 number then refuse .range s
  else match s.lineUp.editor with
    | .editing g =>
      if (g.channels.get? number).isNone then refuse .vacant s
      else
        let g' := { g with channels := g.channels.erase number }
        done (.channelCount g'.channels.size) (s.setEditor (.editing g'))
    | _ => refuse .state s

/-- ABANDON EDIT (R41). -/
def abandonEdit : Request := fun s =>
  match s.lineUp.editor with
  | .editing _ => done .none (s.setEditor .idle)
  | _ => refuse .state s

/-- The lowest channel whose tier is undefined (R42 step 3). -/
def LineUp.undefinedTier (l : LineUp) (g : Generation) : Option Nat :=
  (g.channels.find? (fun _ c => (l.tiers.get? c.tier).isNone)).map (fun p => p.1)

/-- The first clashing pair of channels, lower number first, of a list in rising order; `seen` holds the channels before
it, in rising order (R42 step 4). -/
def clashIn (seen : List (Nat × Channel)) : List (Nat × Channel) → Option (Nat × Nat)
  | [] => none
  | (n, c) :: r =>
    match seen.find? (fun p => p.2.carrier == c.carrier && p.2.program == c.program) with
    | some (m, _) => some (m, n)
    | none => clashIn (seen ++ [(n, c)]) r

/-- The channel is in the generation with kind IMPULSE. -/
def Generation.isImpulse (g : Generation) (number : Nat) : Bool :=
  match g.channels.get? number with
  | some c => decide (c.kind = .impulse)
  | none => false

/-- The lowest offer slot whose channel is not IMPULSE in a generation (R42 step 5). -/
def LineUp.failingOffer (l : LineUp) (g : Generation) : Option (Nat × Offer) :=
  l.offers.find? (fun _ o => !g.isImpulse o.channel)

/-- The validation of NEXT for a switchover minute, in the order of R42. -/
def State.validate (s : State) (g : Generation) (minute : Nat) : Option (Reason × Values) :=
  if g.channels.entries.isEmpty then some (.empty, .none)
  else if ¬ (s.clock.minute + 10 ≤ minute ∧ minute ≤ s.clock.minute + 43200) then
    some (.lead, .present s.clock.minute)
  else match s.lineUp.undefinedTier g with
    | some n => some (.tier, .channelNumber n)
    | none =>
      match clashIn [] g.channels.entries with
      | some (m, n) => some (.carrier, .channelPair m n)
      | none =>
        match s.lineUp.failingOffer g with
        | some (n, o) => some (.offer, .offerOn n o.event o.channel)
        | none => none

/-- PROMOTE (R42, R43). A minute above the clock's greatest gives RANGE (DEDUCED: entry 27). -/
def promote (minute : Nat) : Request := fun s =>
  if Config.max32 < minute then refuse .range s
  else if s.clock.isSet = false then refuse .unset s
  else match s.lineUp.editor with
    | .editing g =>
      match s.validate g minute with
      | some (reason, values) => refuseFor .invalid reason values s
      | none => done (.scheduled g.number minute) (s.setEditor (.scheduled g minute))
    | _ => refuse .state s

/-- A map pass in phase NEXT begins anew (R125). -/
def Downstream.leaveNext (d : Downstream) : Downstream :=
  if d.phase = .next then { d with phase := .time, lastChannel := none } else d

/-- CANCEL PROMOTE (R44, R125). -/
def cancelPromote : Request := fun s =>
  match s.lineUp.editor with
  | .scheduled g _ => done .none ((s.setEditor (.editing g)).withDown s.down.leaveNext)
  | _ => refuse .state s

/-- The generation a name stands for, none for NEXT where it does not exist. -/
def LineUp.generation? (l : LineUp) : GenerationName → Option Generation
  | .current => some l.current
  | .next => l.editor.next?

/-- The switchover minute shown with a channel of NEXT while SCHEDULED (R47). -/
def LineUp.shownMinute (l : LineUp) : GenerationName → Option Nat
  | .current => none
  | .next => l.editor.minute?

/-- READ CHANNEL (R47). -/
def readChannel (generation number : Nat) : Request := fun s =>
  match GenerationName.ofCode? generation with
  | none => refuse .range s
  | some name =>
    if 999 < number then refuse .range s
    else match s.lineUp.generation? name with
      | none => refuse .state s
      | some g =>
        match g.channels.find? (fun k _ => decide (number ≤ k)) with
        | none => refuse .vacant s
        | some (k, c) => done (.channel k c g.number g.channels.size (s.lineUp.shownMinute name)) s

-- offers

/-- The channel is IMPULSE in CURRENT and, while SCHEDULED, in NEXT (R49 check 6). -/
def LineUp.mayOffer (l : LineUp) (channel : Nat) : Bool :=
  l.current.isImpulse channel &&
    (match l.editor with
     | .scheduled g _ => g.isImpulse channel
     | _ => true)

/-- PUT OFFER (R49, R50). -/
def putOffer (slot : Nat) (o : Offer) : Request := fun s =>
  if 15 < slot ∨ ¬ within 1 65535 o.event ∨ ¬ within 2 999 o.channel ∨ 9999 < o.price ∨ 31 < o.tier
      ∨ Config.max32 < o.opens ∨ Config.max32 < o.closes ∨ Config.max32 < o.airEnd then refuse .range s
  else if s.clock.isSet = false then refuse .unset s
  else if ¬ (o.opens < o.closes ∧ o.closes ≤ o.airEnd ∧ s.clock.minute < o.airEnd) then
    refuseFor .invalid .times .none s
  else if (s.lineUp.offers.get? slot).any (fun h => h.event != o.event) then refuse .state s
  else if (s.lineUp.offers.find? (fun k h => k != slot && h.event == o.event)).isSome then refuse .exists s
  else if s.lineUp.mayOffer o.channel = false then refuseFor .invalid .offer .none s
  else if (s.lineUp.tiers.get? o.tier).isNone then refuseFor .invalid .tier .none s
  else done (.offerSlot slot) (s.withLineUp { s.lineUp with offers := s.lineUp.offers.set slot o })

/-- WITHDRAW OFFER (R51). -/
def withdrawOffer (slot : Nat) : Request := fun s =>
  if 15 < slot then refuse .range s
  else match s.lineUp.offers.get? slot with
    | none => refuse .vacant s
    | some o => done (.event o.event) (s.withLineUp { s.lineUp with offers := s.lineUp.offers.erase slot })

/-- READ OFFER (R53). -/
def readOffer (slot : Nat) : Request := fun s =>
  if 15 < slot then refuse .range s
  else match s.lineUp.offers.get? slot with
    | none => refuse .vacant s
    | some o => done (.offer o) s

-- the commands

/-- DEFINE_TIER (R31): Makes an undefined tier defined with a rate and sets its per-tick rates. -/
def execDefineTier (tag tier rate : Nat) (s : State) : Host.Outcome State Fault Refusal :=
  .next (s.exchange tag (defineTier tier rate))

/-- SET_TIER_RATE (R32): Stages a next rate for a defined tier. -/
def execSetTierRate (tag tier rate : Nat) (s : State) : Host.Outcome State Fault Refusal :=
  .next (s.exchange tag (setTierRate tier rate))

/-- UNDEFINE_TIER (R34): Makes an unreferenced tier undefined and zeroes its entry. -/
def execUndefineTier (tag tier : Nat) (s : State) : Host.Outcome State Fault Refusal :=
  .next (s.exchange tag (undefineTier tier))

/-- READ_TIER (R35): Returns a copy of a Tier Table entry. -/
def execReadTier (tag tier : Nat) (s : State) : Host.Outcome State Fault Refusal :=
  .next (s.exchange tag (readTier tier))

/-- BEGIN_EDIT (R38): Makes NEXT as a copy of CURRENT and moves the editor from IDLE to EDITING. -/
def execBeginEdit (tag : Nat) (s : State) : Host.Outcome State Fault Refusal :=
  .next (s.exchange tag beginEdit)

/-- PUT_CHANNEL (R39): Inserts a channel record into NEXT or replaces one. -/
def execPutChannel (tag number carrier program kind tier : Nat) (s : State) : Host.Outcome State Fault Refusal :=
  .next (s.exchange tag (putChannel number carrier program kind tier))

/-- DROP_CHANNEL (R40): Removes a channel record from NEXT. -/
def execDropChannel (tag number : Nat) (s : State) : Host.Outcome State Fault Refusal :=
  .next (s.exchange tag (dropChannel number))

/-- ABANDON_EDIT (R41): Discards NEXT and returns the editor to IDLE. -/
def execAbandonEdit (tag : Nat) (s : State) : Host.Outcome State Fault Refusal :=
  .next (s.exchange tag abandonEdit)

/-- PROMOTE (R42): Validates NEXT and schedules the switchover at a given minute, making the editor SCHEDULED. -/
def execPromote (tag minute : Nat) (s : State) : Host.Outcome State Fault Refusal :=
  .next (s.exchange tag (promote minute))

/-- CANCEL_PROMOTE (R44): Clears a scheduled switchover and returns the editor to EDITING. -/
def execCancelPromote (tag : Nat) (s : State) : Host.Outcome State Fault Refusal :=
  .next (s.exchange tag cancelPromote)

/-- READ_CHANNEL (R47): Returns the first channel record of CURRENT or NEXT at or above a channel number. -/
def execReadChannel (tag generation number : Nat) (s : State) : Host.Outcome State Fault Refusal :=
  .next (s.exchange tag (readChannel generation number))

/-- PUT_OFFER (R49): Places an offer in an Offer Table slot or replaces one of the same event code. -/
def execPutOffer (tag slot event channel price tier opens closes airEnd : Nat) (s : State) :
    Host.Outcome State Fault Refusal :=
  .next (s.exchange tag (putOffer slot ⟨event, channel, price, tier, opens, closes, airEnd⟩))

/-- WITHDRAW_OFFER (R51): Removes a live offer from its slot. -/
def execWithdrawOffer (tag slot : Nat) (s : State) : Host.Outcome State Fault Refusal :=
  .next (s.exchange tag (withdrawOffer slot))

/-- READ_OFFER (R53): Returns the offer held in a slot. -/
def execReadOffer (tag slot : Nat) (s : State) : Host.Outcome State Fault Refusal :=
  .next (s.exchange tag (readOffer slot))

end Sys2Proof.Machine
end

