-- ==== Sys2Proof/Machine/Plant.lean ====
section
/-! DEFINITION. The requests of the Order Engine, the Downstream Scheduler and the Upstream Receiver, and the arrival of
the plant's frames (05, 06 and 07 of spec/). -/

namespace Sys2Proof.Machine

-- requests

/-- CLEAR PORT (R106). -/
def clearPort (tap port : Nat) : Request := fun s =>
  if ¬ within 1 1023 tap ∨ 7 < port then refuse .range s
  else match s.element? tap with
    | none => refuse .vacant s
    | some e =>
      if e.role.kind ≠ .tap then refuseFor .invalid .tap .none s
      else match e.role.ports[port]? with
        | none => refuse .range s
        | some record =>
          match record.link with
          | some n => refuseFor .referenced .port (.slot n) s
          | none =>
            match s.placeOrder tap port .off none with
            | none => refuse .full s
            | some s1 =>
              done (match s1.order? tap port with
                | some o => .orderAt o.state (s1.orderPosition tap port)
                | none => .none) s1

/-- The HOLD count and whether the window has opened, of the frame a SENT order belongs to (R107). -/
def State.sentView (s : State) (o : Order) : Option (Nat × Bool) :=
  if o.state = .sent then s.orders.flight.map (fun f => (f.holds, f.opened)) else none

/-- READ ORDER (R107). -/
def readOrder (position : Nat) : Request := fun s =>
  if 63 < position then refuse .range s
  else match s.orders.queue[position]? with
    | none => refuse .vacant s
    | some o =>
      done (.order { order := o, group := (s.addressOf o.tap).1, member := (s.addressOf o.tap).2,
                     count := s.orders.queue.length, sent := s.sentView o }) s

/-- What READ DOWNSTREAM returns (R126). -/
def State.downstreamView (s : State) : DownstreamView where
  silent := s.silent
  frame := s.down.transmission.map (fun t => (t.stream, t.frame.subject))
  windowFree := s.windowFree
  orderRun := s.down.orderRun
  mapGap := s.down.mapGap
  cursor := s.down.cursor
  passes := s.down.passes
  phase := s.down.phase
  lastChannel := s.down.lastChannel
  expedite := s.down.expedite

/-- READ DOWNSTREAM (R126). -/
def readDownstream : Request := fun s => done (.downstream s.downstreamView) s

/-- READ COUNTERS: the counters and EXPEDITE DROPS are returned, then set to 0 (R134). -/
def readCounters : Request := fun s =>
  done (.counters s.up.counters s.down.drops s.up.window s.up.late)
    ((s.withUp { s.up with counters := .zero }).withDown { s.down with drops := 0 })

-- purchases (R135 to R138)

/-- A declined purchase: DECLINE is offered to the Expedite List (R138). -/
def State.decline (slot event : Nat) (reason : DeclineReason) (s : State) : State :=
  s.offer (.decline slot event reason)

/-- An accepted purchase (R137). -/
def Subscriber.buy (event price : Nat) (r : Subscriber) : Subscriber :=
  { r with purchases := r.purchases ++ [event], purchaseTotal := r.purchaseTotal + price,
           purchaseCount := satAdd Config.max8 r.purchaseCount 1 }

/-- Checks 4 to 8 of R135, on a record that is ACTIVE and does not hold the event: the price of the offer, or the reason
of the decline. -/
def State.purchaseCheck (s : State) (r : Subscriber) (event : Nat) : Except DeclineReason Nat :=
  match s.lineUp.offers.find? (fun _ o => o.event == event) with
  | none => .error .noOffer
  | some (_, o) =>
    if ¬ (o.opens ≤ s.clock.minute ∧ s.clock.minute < o.closes) then .error .window
    else if hasTier r.tiers o.tier = false then .error .tier
    else if Config.purchases ≤ r.purchases.length then .error .listFull
    else if r.ceiling < r.purchaseTotal + o.price then .error .ceiling
    else .ok o.price

/-- A purchase checked against the record it resolves to (R135 checks 2 to 8, R136, R137, R138). -/
def State.purchaseBy (slot : Nat) (r : Subscriber) (event : Nat) (s : State) : State :=
  if r.state ≠ .active then s.decline slot event .notActive
  else if event ∈ r.purchases then s.report slot
  else match s.purchaseCheck r event with
    | .error reason => s.decline slot event reason
    | .ok price => (s.setSlot slot (r.buy event price)).report slot

/-- A counter of the Upstream Receiver increased by 1 (R134). -/
def State.countUp (f : Counters → Counters) (s : State) : State :=
  s.withUp { s.up with counters := f s.up.counters }

/-- A PURCHASE resolved through the Converter Index (R135 check 1). -/
def State.purchaseFrom (converter event : Nat) (s : State) : State :=
  match s.subs.converters.get? converter with
  | none => s.countUp (fun c => { c with unknownConverter := satAdd Config.max16 c.unknownConverter 1 })
  | some slot =>
    match s.slot? slot with
    | none => s.countUp (fun c => { c with unknownConverter := satAdd Config.max16 c.unknownConverter 1 })
    | some r => s.purchaseBy slot r event

-- the Reply Window (R131 to R133)

/-- The late mark holds a kind and an address (R133). -/
def LateMark.holds (m : LateMark) (kind : WindowKind) (group member : Nat) : Bool :=
  decide (m.kind = kind) && decide (m.group = group) && decide (m.member = member)

/-- A reply that does not match the window is counted LATE or UNMATCHED (R133). -/
def State.countReply (kind : WindowKind) (group member : Nat) (s : State) : State :=
  if s.up.late.any (fun m => m.holds kind group member) then
    s.countUp (fun c => { c with late := satAdd Config.max16 c.late 1 })
  else s.countUp (fun c => { c with unmatched := satAdd Config.max16 c.unmatched 1 })

/-- The open window that a reply matches (R131). -/
def State.matching (kind : WindowKind) (group member : Nat) (s : State) : Option ReplyWindow :=
  match s.up.window with
  | some w => if w.kind = kind ∧ w.group = group ∧ w.member = member then some w else none
  | none => none

/-- The window closes with an answer (R131). -/
def State.closeWindow (s : State) : State := s.withUp { s.up with window := none }

/-- The window closes with no answer: the late mark takes its kind and address (R132). -/
def State.expireWindow (w : ReplyWindow) (s : State) : State :=
  s.withUp { s.up with window := none, late := some { kind := w.kind, group := w.group, member := w.member } }

/-- The poll in flight ends; the engine without it, and its element where the void mark is clear (R81, R82). -/
def State.endPoll (s : State) : State × Option Nat :=
  match s.poll.flight with
  | some f => (s.withPoll { s.poll with flight := none }, if f.void then none else some f.element)
  | none => (s, none)

/-- The outcome of a poll delivered: an answer (R83, R131). -/
def State.deliverAnswer (level : Int) (power : PowerState) (s : State) : State :=
  match s.endPoll with
  | (s1, some i) => s1.pollAnswer i level power
  | (s1, none) => s1

/-- The outcome no answer delivered to the owner of the window (R84, R103, R104, R132). -/
def State.deliverSilence (w : ReplyWindow) (s : State) : State :=
  match w.kind with
  | .poll =>
    (match s.endPoll with
     | (s1, some i) => s1.pollSilence i
     | (s1, none) => s1)
  | .order =>
    (match s.orders.flight with
     | some f => s.settleFrame f (fun _ => .silent)
     | none => s)

/-- The window is left unanswered: it expires, or a fourth HOLD closes it (R99, R132). -/
def State.unanswered (w : ReplyWindow) (s : State) : State := (s.expireWindow w).deliverSilence w

/-- A HOLD that matches the window (R99, R132). -/
def State.holdWindow (w : ReplyWindow) (s : State) : State :=
  match s.orders.flight with
  | some f =>
    if f.holds < Config.holds then
      (s.withOrders { s.orders with flight := some { f with holds := f.holds + 1 } }).withUp
        { s.up with window := some { w with timer := Config.orderTimer } }
    else s.unanswered w
  | none => s

/-- The results of an ORDER REPLY delivered to the Order Engine (R100). -/
def State.deliverResults (results : List (Nat × Nat)) (s : State) : State :=
  match s.orders.flight with
  | some f => s.settleFrame f (outcomeIn results)
  | none => s

-- arrival (R128, R129, R141)

/-- A frame that has passed its checks is passed on by its kind (R129, R131, R133, R135). -/
def State.passOn (f : UpFrame) (s : State) : State :=
  match f with
  | .pollReply group member level power =>
    (match s.matching .poll group member with
     | some _ => s.closeWindow.deliverAnswer level (powerOf power)
     | none => s.countReply .poll group member)
  | .orderReply group member results =>
    (match s.matching .order group member with
     | some _ => s.closeWindow.deliverResults results
     | none => s.countReply .order group member)
  | .hold group member =>
    (match s.matching .order group member with
     | some w => s.holdWindow w
     | none => s.countReply .order group member)
  | .purchase converter event => s.purchaseFrom converter event

/-- Checks 2 and 3 of R128, on a frame whose check sequence is right: the system code it carries, none where it is too
short to carry one (DEDUCED: entry 13), and the frame where its kind, form and length are known. -/
def State.checkFrame (system : Option Nat) (f : Option UpFrame) (s : State) : State :=
  if system.isNone ∨ system ≠ s.systemCode then
    s.countUp (fun c => { c with wrongSystem := satAdd Config.max16 c.wrongSystem 1 })
  else match f with
    | some f =>
      if f.valid then s.passOn f
      else s.countUp (fun c => { c with malformed := satAdd Config.max16 c.malformed 1 })
    | none => s.countUp (fun c => { c with malformed := satAdd Config.max16 c.malformed 1 })

/-- What the upstream input is taking in, changed. -/
def State.withReception (s : State) (r : Reception) : State := s.withUp { s.up with reception := r }

/-- The first bit of a frame is taken in: the frame is being taken in, and is lost already where a restart is in progress
(R129). The table has no row for a first bit; that this command stands for it is a DESIGN CHOICE (entry 12). -/
def State.beginFrame (s : State) : State :=
  s.withReception (s.up.reception.started s.restarting)

/-- The last bit of a frame is taken in: the input is idle again, and the frame is checked. One that ends while a restart
is in progress, or that began before the completion of one, is discarded without count (R129, R140, R141). -/
def State.endFrame (check : State → State) (s : State) : State :=
  let s1 := s.withReception .idle
  if s.restarting ∨ s.up.reception = .abandoned then s1 else check s1

/-- A frame of a known kind arrives with a right check sequence (R128). -/
def State.arrive (system : Nat) (f : UpFrame) (s : State) : State :=
  s.endFrame (fun s => s.checkFrame (some system) (some f))

/-- The bytes of an upstream frame are checked (R128, R193, R194). -/
def State.checkBytes (bytes : List Byte) (s : State) : State :=
  match parseUpstream bytes with
  | none => s.countUp (fun c => { c with badCheck := satAdd Config.max16 c.badCheck 1 })
  | some (system, f) => s.checkFrame system f

/-- A frame begins, or the bytes of one arrive (R128, R129). -/
def State.takeIn (frame : Option (List Byte)) (s : State) : State :=
  match frame with
  | none => s.beginFrame
  | some bytes => s.endFrame (State.checkBytes bytes)

/-- The timer of an OPEN window runs out (R132). The timer is not counted down: the command is its end (DESIGN CHOICE:
entry 4). With no window open nothing happens (entry 2). -/
def State.windowExpires (s : State) : State :=
  match s.up.window with
  | some w => s.unanswered w
  | none => s

-- the commands

/-- CLEAR_PORT (R106): Places an order for OFF, with no origin, on an unlinked tap port. -/
def execClearPort (tag tap port : Nat) (s : State) : Host.Outcome State Fault Refusal :=
  .next (s.exchange tag (clearPort tap port))

/-- READ_ORDER (R107): Returns a copy of the order at a position in the Order Queue. -/
def execReadOrder (tag position : Nat) (s : State) : Host.Outcome State Fault Refusal :=
  .next (s.exchange tag (readOrder position))

/-- READ_DOWNSTREAM (R126): Returns the Scheduler's transmitter, arbiter counts, cursors and Expedite List. -/
def execReadDownstream (tag : Nat) (s : State) : Host.Outcome State Fault Refusal :=
  .next (s.exchange tag readDownstream)

/-- READ_COUNTERS (R134): Returns the discard counters, EXPEDITE DROPS and the Reply Window, then clears the counters. -/
def execReadCounters (tag : Nat) (s : State) : Host.Outcome State Fault Refusal :=
  .next (s.exchange tag readCounters)

/-- TRANSMISSION_END (R110): A downstream frame's last bit is sent, a Reply Window opens for a POLL or ORDER frame, and
the arbiter chooses the next frame. -/
def execTransmissionEnd (s : State) : Host.Outcome State Fault Refusal :=
  .next s.endTransmission

/-- POLL_REPLY (R131): An arriving POLL REPLY that matches the open window closes it and is delivered to the Poll
Engine, or else is counted LATE or UNMATCHED. -/
def execPollReply (system group member : Nat) (level : Int) (power : Nat) (s : State) :
    Host.Outcome State Fault Refusal :=
  .next (s.arrive system (.pollReply group member level power))

/-- ORDER_REPLY (R100): An arriving ORDER REPLY of form RESULTS that matches the window closes it and applies ACK, NAK
or no result to each order. -/
def execOrderReply (system group member : Nat) (results : List (Nat × Nat)) (s : State) :
    Host.Outcome State Fault Refusal :=
  .next (s.arrive system (.orderReply group member results))

/-- HOLD (R99): An arriving matching ORDER REPLY of form HOLD restarts the window timer, or as the fourth HOLD closes it
as no answer. -/
def execHold (system group member : Nat) (s : State) : Host.Outcome State Fault Refusal :=
  .next (s.arrive system (.hold group member))

/-- PURCHASE (R135): An arriving PURCHASE is resolved through the Converter Index and checked, then accepted, accepted
again or declined. -/
def execPurchase (system converter event : Nat) (s : State) : Host.Outcome State Fault Refusal :=
  .next (s.arrive system (.purchase converter event))

/-- UNKNOWN_KIND_FRAME (R128): An arriving upstream frame that fails its check sequence, its system code or its kind is
discarded and counted. Its form without bytes is the beginning of a frame (R129, entry 12). -/
def execUnknownKindFrame (frame : Option (List Byte)) (s : State) : Host.Outcome State Fault Refusal :=
  .next (s.takeIn frame)

/-- WINDOW_EXPIRY (R132): The Reply Window timer runs out, closing the window with the outcome no answer and setting the
late mark. -/
def execWindowExpiry (s : State) : Host.Outcome State Fault Refusal :=
  .next s.windowExpires

end Sys2Proof.Machine
end

