-- ==== Sys2Proof/Machine/PlantTree.lean ====
section
/-! DEFINITION. The requests of the Plant Tree (03_the_plant_tree.md). -/

namespace Sys2Proof.Machine

/-- The entry of a parent index is not empty: the root, or a listed element (R59 check 3). -/
def PlantTree.exists_ (t : PlantTree) (i : Nat) : Bool := decide (i = 0) || (t.elements.get? i).isSome

/-- The parent is the root, a NODE or an AMPLIFIER (R59 check 4). -/
def PlantTree.mayParent (t : PlantTree) (i : Nat) : Bool :=
  decide (i = 0) ||
    (match t.elements.get? i with
     | some e => decide (e.role.kind ≠ .tap)
     | none => false)

/-- The element holding an address (R57). -/
def PlantTree.holder (t : PlantTree) (group member : Nat) : Option (Nat × Element) :=
  t.elements.find? (fun _ e => e.group == group && e.member == member)

/-- The poll fields of a new node or amplifier, its parent's dark flag given (R60). -/
def newPollRecord (enable dark : Bool) : PollRecord where
  enable := enable
  state := if enable = false then .off else if dark then .shadowed else .unverified
  misses := 0
  low := -200
  high := 200
  hysteresis := 10
  levelState := .normal
  lastLevel := 0
  power := .unknown

/-- The role of a new element (R58, R60). -/
def NewElement.role (dark : Bool) : NewElement → Role
  | .node enable => .node (newPollRecord enable dark)
  | .amplifier enable => .amplifier (newPollRecord enable dark)
  | .tap n => .tap (List.replicate n { confirmed := .unknown, link := none })

/-- A new element (R60). -/
def newElement (n : NewElement) (parent group member : Nat) (dark : Bool) : Element where
  role := n.role dark
  parent := parent
  firstChild := none
  nextSibling := none
  group := group
  member := member
  dark := dark
  shadow := dark
  mark := .none
  failMinute := 0

/-- An element placed in its entry and appended to its parent's child list (R59). -/
def State.insertElement (s : State) (i : Nat) (e : Element) : State :=
  let t := s.plant.link e.parent i
  (s.withPlant { t with elements := t.elements.set i e }).withPoll
    (s.poll.joinIfUnverified i (e.role.poll?.map (fun p => p.state)))

/-- ADD ELEMENT (R59, R60). -/
def addElement (index kind parent group member : Nat) (last : Option Nat) : Request := fun s =>
  match newElement? kind last with
  | none => refuse .range s
  | some n =>
    if ¬ within 1 1023 index ∨ 1023 < parent ∨ 62 < group ∨ 254 < member then refuse .range s
    else if (s.element? index).isSome then refuse .exists s
    else if s.plant.exists_ parent = false then refuse .vacant s
    else if s.plant.mayParent parent = false then refuseFor .invalid .parent .none s
    else if (s.plant.holder group member).isSome then refuse .exists s
    else
      let e := newElement n parent group member (s.plant.dark parent)
      done (.added index e.dark (e.role.poll?.map (fun p => p.state))) (s.insertElement index e)

/-- The lowest port linked to a subscriber (R61 check 4). -/
def Element.linkedPort (e : Element) : Option Nat :=
  let n := e.role.ports.findIdx (fun p => p.link.isSome)
  if n < e.role.ports.length then some n else none

/-- An element's poll is in flight: counted as a window open from its grant (R61, R82). -/
def State.polledNow (s : State) (i : Nat) : Bool :=
  match s.poll.flight with
  | some f => decide (f.element = i)
  | none => false

/-- The wait that refuses REMOVE ELEMENT with BUSY: a walk running, the element queued, a mark owed, a window open
(R61 checks 6 and 7). -/
def State.removalWaits (s : State) (i : Nat) (e : Element) : Bool :=
  s.plant.walk.running || s.plant.queue.contains i || decide (e.mark ≠ .none) || s.polledNow i
    || (match s.up.window with | some w => decide (w.element = i) | none => false)

/-- An element taken out of its entry, its parent's child list and the Verify List (R61). -/
def State.deleteElement (s : State) (i : Nat) (e : Element) : State :=
  let t := s.plant.unlink i e
  ((s.withPlant { t with elements := t.elements.erase i }).withPoll (s.poll.delist i)).checkRound

/-- REMOVE ELEMENT (R61). -/
def removeElement (index : Nat) : Request := fun s =>
  if ¬ within 1 1023 index then refuse .range s
  else match s.element? index with
    | none => refuse .vacant s
    | some e =>
      match e.firstChild with
      | some c => refuseFor .referenced .children (.element c) s
      | none =>
        match e.linkedPort with
        | some p => refuseFor .referenced .port (.port p) s
        | none =>
          if s.orders.queue.any (fun o => o.tap == index) then refuseFor .referenced .order .none s
          else if s.removalWaits index e then refuse .busy s
          else done .none (s.deleteElement index e)

/-- FIND ELEMENT (R57). -/
def findElement (group member : Nat) : Request := fun s =>
  if 62 < group ∨ 254 < member then refuse .range s
  else match s.plant.holder group member with
    | none => refuse .vacant s
    | some (i, e) => done (.elementAt i e.role.kind) s

/-- READ ELEMENT (R62). -/
def readElement (index : Nat) : Request := fun s =>
  if 1023 < index then refuse .range s
  else if index = 0 then done (.root s.plant.rootFirst) s
  else match s.element? index with
    | none => refuse .vacant s
    | some e => done (.elementCopy e) s

/-- PROPAGATION_VISIT: the running propagation walk visits its next element (R67, R68). With no such walk, or none of its
subtree left, there is no visit. -/
def State.propagationVisit (s : State) : State :=
  match s.plant.walk, s.plant.nextVisit with
  | .propagation own _, some i => s.propagationStep own i
  | _, _ => s

/-- REDERIVE_VISIT: the running re-derive walk visits its next element (R71). -/
def State.rederiveVisit (s : State) : State :=
  match s.plant.walk, s.plant.nextVisit with
  | .rederive _ owing, some i => s.rederiveStep owing i
  | _, _ => s

/-- PROPAGATION_WALK_END: a propagation walk that has visited its whole subtree ends (R70). -/
def State.propagationEnd (s : State) : State :=
  match s.plant.walk, s.plant.nextVisit with
  | .propagation own _, none => (s.pay own).endWalk
  | _, _ => s

/-- REDERIVE_WALK_END: a re-derive walk that has visited the whole tree ends (R71). -/
def State.rederiveEnd (s : State) : State :=
  match s.plant.walk, s.plant.nextVisit with
  | .rederive _ owing, none => (owing.foldl State.pay s).endWalk
  | _, _ => s

-- the commands

/-- ADD_ELEMENT (R59): Places a new node, amplifier or tap in an empty Element Table entry under a parent. -/
def execAddElement (tag index kind parent group member : Nat) (last : Option Nat) (s : State) :
    Host.Outcome State Fault Refusal :=
  .next (s.exchange tag (addElement index kind parent group member last))

/-- REMOVE_ELEMENT (R61): Empties an element entry that has no children, links, orders, walk or window in the way. -/
def execRemoveElement (tag index : Nat) (s : State) : Host.Outcome State Fault Refusal :=
  .next (s.exchange tag (removeElement index))

/-- FIND_ELEMENT (R57): Returns the index and kind of the element that holds a group and member. -/
def execFindElement (tag group member : Nat) (s : State) : Host.Outcome State Fault Refusal :=
  .next (s.exchange tag (findElement group member))

/-- READ_ELEMENT (R62): Returns a copy of an Element Table entry with its port records. -/
def execReadElement (tag index : Nat) (s : State) : Host.Outcome State Fault Refusal :=
  .next (s.exchange tag (readElement index))

/-- PROPAGATION_VISIT (R67): A walk visits one element and rewrites its shadow flag, poll state and dark flag, counting
homes at taps. -/
def execPropagationVisit (s : State) : Host.Outcome State Fault Refusal :=
  .next s.propagationVisit

/-- REDERIVE_VISIT (R71): A re-derive walk visits one element, takes its mark, and posts the notices owed for subtrees
it has finished. -/
def execRederiveVisit (s : State) : Host.Outcome State Fault Refusal :=
  .next s.rederiveVisit

/-- PROPAGATION_WALK_END (R70): A propagation walk ends: it posts the notice owed, releases HELD orders on lit taps and
lets the next walk begin. -/
def execPropagationWalkEnd (s : State) : Host.Outcome State Fault Refusal :=
  .next s.propagationEnd

/-- REDERIVE_WALK_END (R71): A re-derive walk ends after the root's subtree, releasing HELD orders on lit taps and
letting the next walk begin. -/
def execRederiveWalkEnd (s : State) : Host.Outcome State Fault Refusal :=
  .next s.rederiveEnd

end Sys2Proof.Machine
end

