-- ==== Sys2Proof/Machine/Polling.lean ====
section
/-! DEFINITION. The requests and the timer of the Poll Engine (04_transponder_polling.md). -/

namespace Sys2Proof.Machine

/-- SET POLL SETTINGS (R74). -/
def setPollSettings (timeout missLimit period : Nat) : Request := fun s =>
  if 3 < timeout ∨ ¬ within 1 15 missLimit ∨ ¬ within 5 600 period then refuse .range s
  else done (.pollSettings timeout missLimit period)
    (s.withPoll { s.poll with timeout := timeout, missLimit := missLimit, roundPeriod := period })

/-- The poll fields of an element withdrawn from polling (R85). -/
def PollRecord.disable (p : PollRecord) : PollRecord := { p with enable := false, state := .off, misses := 0 }

/-- An element withdrawn from polling (R85). -/
def State.disablePolling (s : State) (i : Nat) (p : PollRecord) : State :=
  let s1 := (s.modifyElement i (Element.mapPoll PollRecord.disable)).withPoll ((s.poll.delist i).markVoid i)
  (if p.state = .failed then s1.requestWalk i (.restore .withdrawn) else s1).checkRound

/-- The poll state of an element returned to polling, by its shadow flag (R86). -/
def enabledState (shadow : Bool) : PollState := if shadow then .shadowed else .unverified

/-- The poll fields of an element returned to polling (R86). -/
def PollRecord.enabled (shadow : Bool) (p : PollRecord) : PollRecord :=
  { p with enable := true, state := enabledState shadow, misses := 0 }

/-- An OFF element returned to polling (R86). -/
def State.enablePolling (s : State) (i : Nat) (e : Element) : State :=
  (s.modifyElement i (Element.mapPoll (PollRecord.enabled e.shadow))).withPoll
    (s.poll.joinIfUnverified i (some (enabledState e.shadow)))

/-- SET POLLING (R85, R86). An element already as asked is answered with its poll state (DEDUCED: entry 18). An enable byte
that is neither no nor yes is RANGE (R191), and that this stands first, with the range of the index and so ahead of VACANT and
KIND, is DEDUCED (entry 29). -/
def setPolling (index enable : Nat) : Request := fun s =>
  match flagOf? enable with
  | none => refuse .range s
  | some on =>
    if ¬ within 1 1023 index then refuse .range s
    else match s.element? index with
      | none => refuse .vacant s
      | some e =>
        match e.role.poll? with
        | none => refuseFor .invalid .kind .none s
        | some p =>
          if p.enable = on then done (.pollState p.state) s
          else if on then done (.pollState (enabledState e.shadow)) (s.enablePolling index e)
          else done (.pollState p.state) (s.disablePolling index p)

/-- SET LEVEL WINDOW (R87). -/
def setLevelWindow (index : Nat) (low high : Int) (hysteresis : Nat) : Request := fun s =>
  if ¬ within 1 1023 index ∨ ¬ withinLevel low ∨ ¬ withinLevel high ∨ ¬ within 1 30 hysteresis then refuse .range s
  else match s.element? index with
    | none => refuse .vacant s
    | some e =>
      match e.role.poll? with
      | none => refuseFor .invalid .kind .none s
      | some p =>
        if high < low then refuseFor .invalid .window .none s
        else done (.levelWindow low high hysteresis p.levelState p.lastLevel)
          (s.modifyElement index
            (Element.mapPoll (fun p => { p with low := low, high := high, hysteresis := hysteresis })))

/-- What READ POLLING returns (R75). -/
def State.pollingView (s : State) : PollingView where
  timeout := s.poll.timeout
  missLimit := s.poll.missLimit
  roundPeriod := s.poll.roundPeriod
  position := s.poll.position
  periodInForce := s.poll.periodInForce
  expired := s.poll.expired
  due := s.pollDue
  verifyCount := s.poll.verify.length
  verifyHead := s.poll.verify.head?
  flight := s.poll.flight

/-- READ POLLING (R75). -/
def readPolling : Request := fun s => done (.polling s.pollingView) s

/-- ROUND_TIMER_EXPIRY: a RUNNING round timer becomes EXPIRED, and a new round begins where no element is left (R78,
R79). The timer is not counted down: the command is its end (DESIGN CHOICE: entry 4). -/
def State.roundExpires (s : State) : State :=
  if s.poll.expired then s else (s.withPoll { s.poll with expired := true }).checkRound

-- the commands

/-- SET_POLL_SETTINGS (R74): Replaces the timeout code, the miss limit and the round period. -/
def execSetPollSettings (tag timeout missLimit period : Nat) (s : State) : Host.Outcome State Fault Refusal :=
  .next (s.exchange tag (setPollSettings timeout missLimit period))

/-- SET_POLLING (R85): Withdraws an element from polling, or with enable yes returns it to polling under R86. -/
def execSetPolling (tag index enable : Nat) (s : State) : Host.Outcome State Fault Refusal :=
  .next (s.exchange tag (setPolling index enable))

/-- SET_LEVEL_WINDOW (R87): Replaces an element's level window. -/
def execSetLevelWindow (tag index : Nat) (low high : Int) (hysteresis : Nat) (s : State) :
    Host.Outcome State Fault Refusal :=
  .next (s.exchange tag (setLevelWindow index low high hysteresis))

/-- READ_POLLING (R75): Returns the poll settings, the round record, the Verify List and the poll in flight. -/
def execReadPolling (tag : Nat) (s : State) : Host.Outcome State Fault Refusal :=
  .next (s.exchange tag readPolling)

/-- ROUND_TIMER_EXPIRY (R78): The round timer reaches the round period and becomes EXPIRED, beginning a new round if no
element is left. -/
def execRoundTimerExpiry (s : State) : Host.Outcome State Fault Refusal :=
  .next s.roundExpires

end Sys2Proof.Machine
end

