-- ==== Sys2Proof/Machine/SubscriberTable.lean ====
section
/-! DEFINITION. The requests of the Subscriber Table (01_the_subscriber_table.md). -/

namespace Sys2Proof.Machine

/-- A request that names a slot: RANGE above 4,095, VACANT where the slot holds no record (R12 kinds 1 and 2). -/
def withSlot (slot : Nat) (k : Subscriber → Request) : Request := fun s =>
  if Config.slots ≤ slot then refuse .range s
  else match s.slot? slot with
    | none => refuse .vacant s
    | some r => k r s

/-- The record of ADD SUBSCRIBER (R13). -/
def newSubscriber (account ceiling sequence : Nat) : Subscriber where
  state := .prepared
  account := account
  converter := none
  port := none
  tiers := 0
  ceiling := ceiling
  purchases := []
  purchaseTotal := 0
  purchaseCount := 0
  periodTag := sequence
  weight := 0
  accumulator := 0
  saturated := false
  held := 0
  spell := 0
  charged := 0
  credited := 0
  statement := none

/-- ADD SUBSCRIBER (R13). -/
def addSubscriber (account ceiling : Nat) : Request := fun s =>
  if ¬ within 1 99999999 account ∨ 65535 < ceiling then refuse .range s
  else if (s.subs.accounts.get? account).isSome then refuse .exists s
  else match s.subs.slots.firstFree Config.slots 0 with
    | none => refuse .full s
    | some slot =>
      done (.slot slot) (s.withSubs { s.subs with
        slots := s.subs.slots.set slot (newSubscriber account ceiling s.accrual.sequence)
        accounts := s.subs.accounts.set account slot })

/-- The Converter Index after a record's address changes (R14). -/
def moveConverter (index : Table Nat) (slot : Nat) (old new : Option Nat) : Table Nat :=
  let without := match old with
    | some a => index.erase a
    | none => index
  match new with
  | some a => without.set a slot
  | none => without

/-- The departing address is offered a DISABLE (R15, R27). -/
def State.offerDisable (old : Option Nat) (s : State) : State :=
  match old with
  | some a => s.offer (.disable a)
  | none => s

/-- ASSIGN CONVERTER (R14, R15). Address 0 is none. -/
def assignConverter (slot address : Nat) : Request := fun s =>
  if 16777215 < address ∨ Config.slots ≤ slot then refuse .range s
  else withSlot slot (fun r s =>
    let new := if address = 0 then none else some address
    if new = r.converter then done .none s
    else if address ≠ 0 ∧ (s.subs.converters.get? address).any (fun n => n != slot) = true then refuse .exists s
    else
      let s1 := s.withSubs { s.subs with
        slots := s.subs.slots.set slot { r with converter := new }
        converters := moveConverter s.subs.converters slot r.converter new }
      done .none ((s1.offerDisable r.converter).reportRecord slot)) s

/-- The confirmed setting lets a port be released: OFF, UNKNOWN or FAULT (R17). -/
def Confirmed.releasable : Confirmed → Bool
  | .off => true
  | .limited => false
  | .full => false
  | .unknown => true
  | .fault => true

/-- The port of a record may be released now (R17). -/
def State.mayRelease (s : State) (p : PortRef) : Bool :=
  match s.confirmed? p with
  | some c => c.releasable
  | none => true

/-- A record's port released: both sides of the link cleared, and the origin of its order dropped (R17). -/
def State.releasePort (slot : Nat) (p : PortRef) (s : State) : State :=
  (s.setLink p.tap p.port none).dropOrigin p.tap p.port slot

/-- The record is PREPARED or DISCONNECTED. -/
def ServiceState.outOfService : ServiceState → Bool
  | .prepared => true
  | .active => false
  | .suspended => false
  | .disconnected => true

/-- ASSIGN PORT with the operand none (R17). -/
def unassignPort (slot : Nat) : Request := withSlot slot (fun r s =>
  if r.state.outOfService = false then refuse .state s
  else match r.port with
    | none => done .none s
    | some p =>
      if s.mayRelease p then done .none ((s.releasePort slot p).setSlot slot { r with port := none })
      else refuseFor .state .port .none s)

/-- The new link of ASSIGN PORT, after the old port, if any, has been released (R16, R17). -/
def State.linkPort (slot tap port : Nat) (r : Subscriber) (s : State) : State :=
  let s1 := match r.port with
    | some p => s.releasePort slot p
    | none => s
  (s1.setLink tap port (some slot)).setSlot slot { r with port := some { tap := tap, port := port } }

/-- ASSIGN PORT to a tap port: checks 4 to 8 of R16, for a record in PREPARED or DISCONNECTED. -/
def assignPortTo (slot tap port : Nat) (r : Subscriber) : Request := fun s =>
  match s.element? tap with
  | none => refuse .vacant s
  | some e =>
    if e.role.kind ≠ .tap then refuseFor .invalid .tap .none s
    else match e.role.ports[port]? with
      | none => refuse .range s
      | some record =>
        if record.link ≠ none ∧ record.link ≠ some slot then refuse .exists s
        else if r.port = some { tap := tap, port := port } then done .none s
        else if r.port.all s.mayRelease then done .none (s.linkPort slot tap port r)
        else refuseFor .state .port .none s

/-- ASSIGN PORT (R16, R17). Tap 0 is none, whatever the port byte (R191). -/
def assignPort (slot tap port : Nat) : Request := fun s =>
  if tap = 0 then unassignPort slot s
  else if ¬ within 1 1023 tap ∨ 7 < port then refuse .range s
  else withSlot slot (fun r s =>
    if r.state.outOfService = false then refuse .state s else assignPortTo slot tap port r s) s

/-- The holder counts of the tiers of a set rewritten. -/
def changeHolders (tiers : Table Tier) (m : TierSet) (f : Nat → Nat) : Table Tier :=
  tiers.map (fun n t => if hasTier m n then { t with holders := f t.holders } else t)

/-- A record's held tiers changed: its weight is recomputed for the period its tag names, and the change is reported (R18,
R19, R20). -/
def State.setTiers (slot : Nat) (r : Subscriber) (m : TierSet) (s : State) : State :=
  (s.setSlot slot { r with tiers := m, weight := s.weightFor r.periodTag m }).reportRecord slot

/-- Every tier of the set is defined (R18). -/
def LineUp.allDefined (l : LineUp) (m : TierSet) : Bool :=
  (List.range Config.tiers).all (fun n => !hasTier m n || (l.tiers.get? n).isSome)

/-- GRANT TIERS (R18). -/
def grantTiers (slot : Nat) (tiers : TierSet) : Request := withSlot slot (fun r s =>
  if s.lineUp.allDefined tiers = false then refuseFor .invalid .tier .none s
  else
    let added := tiers &&& ~~~ r.tiers
    if added = 0 then done (.tiers r.tiers) s
    else done (.tiers (r.tiers ||| tiers))
      ((s.withLineUp { s.lineUp with
        tiers := changeHolders s.lineUp.tiers added (fun n => satAdd Config.slots n 1) }).setTiers slot r
          (r.tiers ||| tiers)))

/-- REVOKE TIERS (R19). -/
def revokeTiers (slot : Nat) (tiers : TierSet) : Request := withSlot slot (fun r s =>
  let removed := tiers &&& r.tiers
  if removed = 0 then done (.tiers r.tiers) s
  else done (.tiers (r.tiers &&& ~~~ tiers))
    ((s.withLineUp { s.lineUp with
      tiers := changeHolders s.lineUp.tiers removed (fun n => n - 1) }).setTiers slot r (r.tiers &&& ~~~ tiers)))

/-- SET CEILING (R21). -/
def setCeiling (slot ceiling : Nat) : Request := fun s =>
  if 65535 < ceiling then refuse .range s
  else withSlot slot (fun r s => done .none (s.setSlot slot { r with ceiling := ceiling })) s

/-- A change of service: the order placed for the record's port, the new state, the report; none where no order can be
placed (R10). -/
def State.serve (slot : Nat) (r : Subscriber) (p : PortRef) (to_ : ServiceState) (s : State) : Option State :=
  (s.placeOrder p.tap p.port to_.demands (some slot)).map
    (fun s1 => (s1.setSlot slot { r with state := to_ }).reportRecord slot)

/-- A request that moves a record between service states (R8, R22, R23, R24): STATE from a state that does not allow it,
STATE reason PORT without a port, FULL where its order cannot be placed. -/
def changeService (slot : Nat) (from_ : ServiceState → Bool) (to_ : ServiceState) : Request :=
  withSlot slot (fun r s =>
    if from_ r.state = false then refuse .state s
    else match r.port with
      | none => refuseFor .state .port .none s
      | some p =>
        match s.serve slot r p to_ with
        | some s1 => done .none s1
        | none => refuse .full s)

/-- CONNECT (R22). -/
def connect (slot : Nat) : Request := changeService slot ServiceState.outOfService .active

/-- SUSPEND (R23). -/
def suspend (slot : Nat) : Request := changeService slot (fun st => decide (st = .active)) .suspended

/-- RESUME (R23). -/
def resume (slot : Nat) : Request := changeService slot (fun st => decide (st = .suspended)) .active

/-- DISCONNECT (R24). -/
def disconnect (slot : Nat) : Request := changeService slot (fun st => !st.outOfService) .disconnected

/-- REISSUE (R25). -/
def reissue (slot : Nat) : Request := withSlot slot (fun r s =>
  match r.port with
  | none => refuseFor .state .port .none s
  | some p =>
    match s.placeOrder p.tap p.port r.state.demands (some slot) with
    | some s1 => done .none s1
    | none => refuse .full s)

/-- The record's converter leaves the index and is offered a DISABLE (R27 step 3). -/
def State.dropConverter (r : Subscriber) (s : State) : State :=
  match r.converter with
  | some a => (s.withSubs { s.subs with converters := s.subs.converters.erase a }).offer (.disable a)
  | none => s

/-- The record's port, if any, is released (R27 step 4). -/
def State.dropPort (slot : Nat) (r : Subscriber) (s : State) : State :=
  match r.port with
  | some p => s.releasePort slot p
  | none => s

/-- A RETIRE that passes its checks (R27). The slot is VACANT after it. -/
def State.retireSlot (slot : Nat) (r : Subscriber) (s : State) : State :=
  let s1 := s.withLineUp { s.lineUp with tiers := changeHolders s.lineUp.tiers r.tiers (fun n => n - 1) }
  let s2 := s1.withSubs { s1.subs with accounts := s1.subs.accounts.erase r.account }
  let s3 := (s2.dropConverter r).dropPort slot r
  s3.withSubs { s3.subs with slots := s3.subs.slots.erase slot }

/-- RETIRE (R26, R27). -/
def retire (slot : Nat) : Request := withSlot slot (fun r s =>
  if r.state.outOfService = false then refuse .state s
  else if r.accumulator ≠ 0 ∨ r.held ≠ 0 ∨ r.spell ≠ 0 ∨ r.purchaseTotal ≠ 0 then
    refuseFor .state .charges .none s
  else if r.statement.isSome then refuseFor .state .statement .none s
  else if r.port.any (fun p => decide (s.confirmed? p ≠ some .off)) then refuseFor .state .port .none s
  else done .none (s.retireSlot slot r))

/-- The slot a key of FIND SUBSCRIBER names (R28). -/
def State.lookup (s : State) : SubscriberKey → Option Nat
  | .account n => s.subs.accounts.get? n
  | .converter n => s.subs.converters.get? n
  | .tapPort tap port =>
    match s.port? tap port with
    | some p => p.link
    | none => none

/-- FIND SUBSCRIBER (R28). -/
def findSubscriber (kind value : Nat) : Request := fun s =>
  match subscriberKey? kind value with
  | none => refuse .range s
  | some key =>
    match s.lookup key with
    | none => refuse .vacant s
    | some slot =>
      match s.slot? slot with
      | some r => done (.found slot r.state) s
      | none => refuse .vacant s

/-- The confirmed setting of a record's port and its tap's dark flag (R29). -/
def State.portView (s : State) (r : Subscriber) : Option (Confirmed × Bool) :=
  match r.port with
  | some p => (s.confirmed? p).map (fun c => (c, s.plant.dark p.tap))
  | none => none

/-- READ SUBSCRIBER (R29). -/
def readSubscriber (slot : Nat) : Request := withSlot slot (fun r s => done (.subscriber r (s.portView r)) s)

-- the commands

/-- ADD_SUBSCRIBER (R13): Creates a PREPARED record in the lowest-numbered VACANT slot with the given account and
ceiling. -/
def execAddSubscriber (tag account ceiling : Nat) (s : State) : Host.Outcome State Fault Refusal :=
  .next (s.exchange tag (addSubscriber account ceiling))

/-- ASSIGN_CONVERTER (R14): Gives a record a converter address, changes it or removes it, and updates the Converter
Index. -/
def execAssignConverter (tag slot address : Nat) (s : State) : Host.Outcome State Fault Refusal :=
  .next (s.exchange tag (assignConverter slot address))

/-- ASSIGN_PORT (R16): Links a PREPARED or DISCONNECTED record to a tap port, or with operand none releases its port
under R17. -/
def execAssignPort (tag slot tap port : Nat) (s : State) : Host.Outcome State Fault Refusal :=
  .next (s.exchange tag (assignPort slot tap port))

/-- GRANT_TIERS (R18): Adds defined tiers to a record, raises their holder counts and recomputes the weight. -/
def execGrantTiers (tag slot : Nat) (tiers : TierSet) (s : State) : Host.Outcome State Fault Refusal :=
  .next (s.exchange tag (grantTiers slot tiers))

/-- REVOKE_TIERS (R19): Removes held tiers from a record, lowers their holder counts and recomputes the weight. -/
def execRevokeTiers (tag slot : Nat) (tiers : TierSet) (s : State) : Host.Outcome State Fault Refusal :=
  .next (s.exchange tag (revokeTiers slot tiers))

/-- SET_CEILING (R21): Replaces a record's credit ceiling for later purchases. -/
def execSetCeiling (tag slot ceiling : Nat) (s : State) : Host.Outcome State Fault Refusal :=
  .next (s.exchange tag (setCeiling slot ceiling))

/-- CONNECT (R22): Moves a PREPARED or DISCONNECTED record with a port to ACTIVE and places an order for FULL. -/
def execConnect (tag slot : Nat) (s : State) : Host.Outcome State Fault Refusal :=
  .next (s.exchange tag (connect slot))

/-- SUSPEND (R23): Moves an ACTIVE record to SUSPENDED and places an order for LIMITED. -/
def execSuspend (tag slot : Nat) (s : State) : Host.Outcome State Fault Refusal :=
  .next (s.exchange tag (suspend slot))

/-- RESUME (R23): Moves a SUSPENDED record to ACTIVE and places an order for FULL. -/
def execResume (tag slot : Nat) (s : State) : Host.Outcome State Fault Refusal :=
  .next (s.exchange tag (resume slot))

/-- DISCONNECT (R24): Moves an ACTIVE or SUSPENDED record to DISCONNECTED and places an order for OFF. -/
def execDisconnect (tag slot : Nat) (s : State) : Host.Outcome State Fault Refusal :=
  .next (s.exchange tag (disconnect slot))

/-- REISSUE (R25): Places an order for the setting that the record's present state demands, without changing the state. -/
def execReissue (tag slot : Nat) (s : State) : Host.Outcome State Fault Refusal :=
  .next (s.exchange tag (reissue slot))

/-- RETIRE (R26): Empties a slot whose charges, statement and port allow it, releasing its keys, tiers and port. -/
def execRetire (tag slot : Nat) (s : State) : Host.Outcome State Fault Refusal :=
  .next (s.exchange tag (retire slot))

/-- FIND_SUBSCRIBER (R28): Looks up a slot by account, converter address or tap port. -/
def execFindSubscriber (tag kind value : Nat) (s : State) : Host.Outcome State Fault Refusal :=
  .next (s.exchange tag (findSubscriber kind value))

/-- READ_SUBSCRIBER (R29): Returns a copy of a subscriber record with its port's confirmed setting and its tap's dark
flag. -/
def execReadSubscriber (tag slot : Nat) (s : State) : Host.Outcome State Fault Refusal :=
  .next (s.exchange tag (readSubscriber slot))

end Sys2Proof.Machine
end

