-- ==== Sys2Proof/Machine/Port.lean ====
section
/-! DEFINITION. The Management Port: the owner of each request, a select period, the RESET pin, the completion of a restart
and power-on reset (11_management_port_clock_and_identity.md). -/

namespace Sys2Proof.Machine

/-- The tag of a request and the request as its owner takes it (R180, R190); none for an event. -/
def requestOf? : Instr → Option (Nat × Request)
  | .addSubscriber tag account ceiling => some (tag, addSubscriber account ceiling)
  | .assignConverter tag slot address => some (tag, assignConverter slot address)
  | .assignPort tag slot tap port => some (tag, assignPort slot tap port)
  | .grantTiers tag slot tiers => some (tag, grantTiers slot tiers)
  | .revokeTiers tag slot tiers => some (tag, revokeTiers slot tiers)
  | .setCeiling tag slot ceiling => some (tag, setCeiling slot ceiling)
  | .connect tag slot => some (tag, connect slot)
  | .suspend tag slot => some (tag, suspend slot)
  | .resume tag slot => some (tag, resume slot)
  | .disconnect tag slot => some (tag, disconnect slot)
  | .reissue tag slot => some (tag, reissue slot)
  | .retire tag slot => some (tag, retire slot)
  | .findSubscriber tag kind value => some (tag, findSubscriber kind value)
  | .readSubscriber tag slot => some (tag, readSubscriber slot)
  | .defineTier tag tier rate => some (tag, defineTier tier rate)
  | .setTierRate tag tier rate => some (tag, setTierRate tier rate)
  | .undefineTier tag tier => some (tag, undefineTier tier)
  | .readTier tag tier => some (tag, readTier tier)
  | .beginEdit tag => some (tag, beginEdit)
  | .putChannel tag number carrier program kind tier => some (tag, putChannel number carrier program kind tier)
  | .dropChannel tag number => some (tag, dropChannel number)
  | .abandonEdit tag => some (tag, abandonEdit)
  | .promote tag minute => some (tag, promote minute)
  | .cancelPromote tag => some (tag, cancelPromote)
  | .readChannel tag generation number => some (tag, readChannel generation number)
  | .putOffer tag slot event channel price tier opens closes airEnd => some (tag, putOffer slot ⟨event, channel, price, tier, opens, closes, airEnd⟩)
  | .withdrawOffer tag slot => some (tag, withdrawOffer slot)
  | .readOffer tag slot => some (tag, readOffer slot)
  | .addElement tag index kind parent group member last => some (tag, addElement index kind parent group member last)
  | .removeElement tag index => some (tag, removeElement index)
  | .findElement tag group member => some (tag, findElement group member)
  | .readElement tag index => some (tag, readElement index)
  | .setPollSettings tag timeout missLimit period => some (tag, setPollSettings timeout missLimit period)
  | .setPolling tag index enable => some (tag, setPolling index enable)
  | .setLevelWindow tag index low high hysteresis => some (tag, setLevelWindow index low high hysteresis)
  | .readPolling tag => some (tag, readPolling)
  | .clearPort tag tap port => some (tag, clearPort tap port)
  | .readOrder tag position => some (tag, readOrder position)
  | .readDownstream tag => some (tag, readDownstream)
  | .readCounters tag => some (tag, readCounters)
  | .setThreshold tag ticks => some (tag, setThreshold ticks)
  | .readAccrual tag => some (tag, readAccrual)
  | .startPeriod tag days => some (tag, startPeriod days)
  | .takeStatement tag slot => some (tag, takeStatement slot)
  | .takeNotice tag => some (tag, takeNotice)
  | .setAlarmLevel tag level => some (tag, setAlarmLevel level)
  | .setSystemCode tag code => some (tag, setSystemCode code)
  | .setTime tag minute => some (tag, setTime minute)
  | .readStatus tag => some (tag, readStatus)
  | .restart tag => some (tag, restartRequest)
  | .selectPeriod _ _ => none
  | .resetPin => none
  | .restartComplete => none
  | .powerOnReset _ => none
  | .secondTick => none
  | .minuteEvent => none
  | .accrualVisit => none
  | .accrualWalkEnd => none
  | .periodVisit => none
  | .periodWalkEnd => none
  | .propagationVisit => none
  | .rederiveVisit => none
  | .propagationWalkEnd => none
  | .rederiveWalkEnd => none
  | .roundTimerExpiry => none
  | .transmissionEnd => none
  | .pollReply _ _ _ _ _ => none
  | .orderReply _ _ _ _ => none
  | .hold _ _ _ => none
  | .purchase _ _ _ => none
  | .unknownKindFrame _ => none
  | .windowExpiry => none

/-- The reason of a BAD REQUEST (R180). -/
def FrameFault.reason : FrameFault → Reason
  | .length => .length
  | .check => .check
  | .code => .code

/-- A request frame that fails its envelope is answered BAD REQUEST with its tag and reason, and reaches no block (R180). -/
def refuseFrame (fault : FrameFault) : Request := refuseFor .badRequest (FrameFault.reason fault) .none

/-- The bytes of a request frame are taken: parsed, handed to the owner of the request, and answered (R179 step 3, R180). -/
def State.takeFrame (bytes : List Byte) (s : State) : State :=
  match parseRequest bytes with
  | .bad tag fault => State.respond tag (refuseFrame fault s)
  | .request i =>
    match requestOf? i with
    | some (tag, request) => State.respond tag (request s)
    | none => s

/-- The overrun mark of the held response is set (R181). -/
def State.markOverrun (s : State) : State := s.withResponse (s.response.map (fun r => { r with overrun := true }))

/-- The host clocked out every byte of a held response (R179 step 1). -/
def Response.readWhole (clocked : Nat) (r : Response) : Bool := decide (r.bytes.length ≤ clocked)

/-- Steps 2 to 4 of R179: nothing where data in carried no byte; the frame taken where the buffer is empty; the overrun
mark set where a response is still held. -/
def State.collect (dataIn : List Byte) (s : State) : State :=
  if dataIn.isEmpty then s
  else if s.response.isSome then s.markOverrun
  else s.takeFrame dataIn

/-- The steps of R179 at the release of a select period. Reading the OK of a RESTART begins the restart, and the period's
data in is discarded with it (R186, entry 10). -/
def State.endPeriod (clocked : Nat) (dataIn : List Byte) (s : State) : State :=
  match s.response with
  | none => s.collect dataIn
  | some r =>
    if r.readWhole clocked then
      (if r.startsRestart then s.beginRestart .request else s.emptyBuffer.collect dataIn)
    else s.collect dataIn

/-- An edge of select (R179, R186), a release with the bytes collected on data in. The table has one row for a select period; that this command stands for its assertion
too is a DESIGN CHOICE (entry 28). -/
def State.selectPeriod (edge : SelectEdge) (dataIn : List Byte) (s : State) : State :=
  match edge with
  | .asserted => s.withSelect (s.select.started s.restarting)
  | .released clocked => s.release (State.endPeriod clocked dataIn)

/-- The RESET pin changes its level (R186). Driven active, it begins a restart, or joins the one in progress and holds it in
progress until its release. The table has one row for the pin; that its command stands for each change of level, by turns
active and released, is a DESIGN CHOICE (entry 11). -/
def State.turnPin (s : State) : State :=
  let s1 := s.withPinHeld (!s.pinHeld)
  if s.pinHeld ∨ s.restarting then s1 else s1.beginRestart .resetPin

/-- The restart in progress completes. With none in progress, and while the RESET pin is held, it does not, and nothing
happens (R186, entry 2). -/
def State.completeRestart (s : State) : State :=
  if s.restarting ∧ s.pinHeld = false then s.finishRestart else s

-- the commands

/-- SELECT_PERIOD (R179): At the release of select, completes a read of the held response and takes or discards the
request frame it carried. Its form asserted is the beginning of a select period (entry 28). -/
def execSelectPeriod (edge : SelectEdge) (dataIn : List Byte) (s : State) : Host.Outcome State Fault Refusal :=
  .next (s.selectPeriod edge dataIn)

/-- RESET_PIN (R186): Driving the RESET pin active begins a restart and discards the held response. The command that follows
it is the pin's release (entry 11). -/
def execResetPin (s : State) : Host.Outcome State Fault Refusal :=
  .next s.turnPin

/-- RESTART_COMPLETE (R186): Completion of a restart: a new round begins, a re-derive walk starts, the accrual walk
choice is made and the arbiter chooses. -/
def execRestartComplete (s : State) : Host.Outcome State Fault Refusal :=
  .next s.completeRestart

/-- POWER_ON_RESET (R186): Power-on reset sets every block to its power-on values and samples the rate straps. -/
def execPowerOnReset (straps : Nat) (s : State) : Host.Outcome State Fault Refusal :=
  .next (s.powerOn straps)

end Sys2Proof.Machine
end

