-- ==== Sys2Proof/Machine/Dispatch.lean ====
section
/-! DEFINITION. The meaning of every command. -/

namespace Sys2Proof.Machine

def exec (i : Instr) (s : State) : Host.Outcome State Fault Refusal :=
  match i with
  | .addSubscriber tag account ceiling => Sys2Proof.Machine.execAddSubscriber tag account ceiling s
  | .assignConverter tag slot address => Sys2Proof.Machine.execAssignConverter tag slot address s
  | .assignPort tag slot tap port => Sys2Proof.Machine.execAssignPort tag slot tap port s
  | .grantTiers tag slot tiers => Sys2Proof.Machine.execGrantTiers tag slot tiers s
  | .revokeTiers tag slot tiers => Sys2Proof.Machine.execRevokeTiers tag slot tiers s
  | .setCeiling tag slot ceiling => Sys2Proof.Machine.execSetCeiling tag slot ceiling s
  | .connect tag slot => Sys2Proof.Machine.execConnect tag slot s
  | .suspend tag slot => Sys2Proof.Machine.execSuspend tag slot s
  | .resume tag slot => Sys2Proof.Machine.execResume tag slot s
  | .disconnect tag slot => Sys2Proof.Machine.execDisconnect tag slot s
  | .reissue tag slot => Sys2Proof.Machine.execReissue tag slot s
  | .retire tag slot => Sys2Proof.Machine.execRetire tag slot s
  | .findSubscriber tag kind value => Sys2Proof.Machine.execFindSubscriber tag kind value s
  | .readSubscriber tag slot => Sys2Proof.Machine.execReadSubscriber tag slot s
  | .defineTier tag tier rate => Sys2Proof.Machine.execDefineTier tag tier rate s
  | .setTierRate tag tier rate => Sys2Proof.Machine.execSetTierRate tag tier rate s
  | .undefineTier tag tier => Sys2Proof.Machine.execUndefineTier tag tier s
  | .readTier tag tier => Sys2Proof.Machine.execReadTier tag tier s
  | .beginEdit tag => Sys2Proof.Machine.execBeginEdit tag s
  | .putChannel tag number carrier program kind tier => Sys2Proof.Machine.execPutChannel tag number carrier program kind tier s
  | .dropChannel tag number => Sys2Proof.Machine.execDropChannel tag number s
  | .abandonEdit tag => Sys2Proof.Machine.execAbandonEdit tag s
  | .promote tag minute => Sys2Proof.Machine.execPromote tag minute s
  | .cancelPromote tag => Sys2Proof.Machine.execCancelPromote tag s
  | .readChannel tag generation number => Sys2Proof.Machine.execReadChannel tag generation number s
  | .putOffer tag slot event channel price tier opens closes airEnd => Sys2Proof.Machine.execPutOffer tag slot event channel price tier opens closes airEnd s
  | .withdrawOffer tag slot => Sys2Proof.Machine.execWithdrawOffer tag slot s
  | .readOffer tag slot => Sys2Proof.Machine.execReadOffer tag slot s
  | .addElement tag index kind parent group member last => Sys2Proof.Machine.execAddElement tag index kind parent group member last s
  | .removeElement tag index => Sys2Proof.Machine.execRemoveElement tag index s
  | .findElement tag group member => Sys2Proof.Machine.execFindElement tag group member s
  | .readElement tag index => Sys2Proof.Machine.execReadElement tag index s
  | .setPollSettings tag timeout missLimit period => Sys2Proof.Machine.execSetPollSettings tag timeout missLimit period s
  | .setPolling tag index enable => Sys2Proof.Machine.execSetPolling tag index enable s
  | .setLevelWindow tag index low high hysteresis => Sys2Proof.Machine.execSetLevelWindow tag index low high hysteresis s
  | .readPolling tag => Sys2Proof.Machine.execReadPolling tag s
  | .clearPort tag tap port => Sys2Proof.Machine.execClearPort tag tap port s
  | .readOrder tag position => Sys2Proof.Machine.execReadOrder tag position s
  | .readDownstream tag => Sys2Proof.Machine.execReadDownstream tag s
  | .readCounters tag => Sys2Proof.Machine.execReadCounters tag s
  | .setThreshold tag ticks => Sys2Proof.Machine.execSetThreshold tag ticks s
  | .readAccrual tag => Sys2Proof.Machine.execReadAccrual tag s
  | .startPeriod tag days => Sys2Proof.Machine.execStartPeriod tag days s
  | .takeStatement tag slot => Sys2Proof.Machine.execTakeStatement tag slot s
  | .takeNotice tag => Sys2Proof.Machine.execTakeNotice tag s
  | .setAlarmLevel tag level => Sys2Proof.Machine.execSetAlarmLevel tag level s
  | .setSystemCode tag code => Sys2Proof.Machine.execSetSystemCode tag code s
  | .setTime tag minute => Sys2Proof.Machine.execSetTime tag minute s
  | .readStatus tag => Sys2Proof.Machine.execReadStatus tag s
  | .restart tag => Sys2Proof.Machine.execRestart tag s
  | .selectPeriod edge dataIn => Sys2Proof.Machine.execSelectPeriod edge dataIn s
  | .resetPin => Sys2Proof.Machine.execResetPin s
  | .restartComplete => Sys2Proof.Machine.execRestartComplete s
  | .powerOnReset straps => Sys2Proof.Machine.execPowerOnReset straps s
  | .secondTick => Sys2Proof.Machine.execSecondTick s
  | .minuteEvent => Sys2Proof.Machine.execMinuteEvent s
  | .accrualVisit => Sys2Proof.Machine.execAccrualVisit s
  | .accrualWalkEnd => Sys2Proof.Machine.execAccrualWalkEnd s
  | .periodVisit => Sys2Proof.Machine.execPeriodVisit s
  | .periodWalkEnd => Sys2Proof.Machine.execPeriodWalkEnd s
  | .propagationVisit => Sys2Proof.Machine.execPropagationVisit s
  | .rederiveVisit => Sys2Proof.Machine.execRederiveVisit s
  | .propagationWalkEnd => Sys2Proof.Machine.execPropagationWalkEnd s
  | .rederiveWalkEnd => Sys2Proof.Machine.execRederiveWalkEnd s
  | .roundTimerExpiry => Sys2Proof.Machine.execRoundTimerExpiry s
  | .transmissionEnd => Sys2Proof.Machine.execTransmissionEnd s
  | .pollReply system group member level power => Sys2Proof.Machine.execPollReply system group member level power s
  | .orderReply system group member results => Sys2Proof.Machine.execOrderReply system group member results s
  | .hold system group member => Sys2Proof.Machine.execHold system group member s
  | .purchase system converter event => Sys2Proof.Machine.execPurchase system converter event s
  | .unknownKindFrame frame => Sys2Proof.Machine.execUnknownKindFrame frame s
  | .windowExpiry => Sys2Proof.Machine.execWindowExpiry s

end Sys2Proof.Machine
end

