-- ==== Sys2Proof/Safety.lean ====
section
/-! DEFINITION. What counts as a sound state of the part, in the terms the statements use: when a request is taken and how
it is answered, and the invariants that every step keeps. -/

namespace Sys2Proof.Machine

-- requests and their answers

/-- The Management Port takes requests: no restart is in progress, no RESTART awaits the read of its OK, and no select period
is running whose assertion has been taken (R179, R186). -/
abbrev State.takesRequests (s : State) : Prop := s.restarting = false ∧ s.restartHeld = false ∧ s.select = .idle

/-- The upstream input takes a frame: no restart is in progress, and no frame whose first bit has been taken is still
arriving (R129, R141). -/
abbrev State.takesFrames (s : State) : Prop := s.restarting = false ∧ s.up.reception = .idle

/-- The held response of a request answered OK with values (R178). -/
def okay (tag : Nat) (v : Values) : Response :=
  { tag := tag, status := .ok, reason := none, values := v, overrun := false, startsRestart := false }

/-- The held response of a request refused without a reason (R178). -/
def refused (tag : Nat) (st : Status) : Response :=
  { tag := tag, status := st, reason := none, values := .none, overrun := false, startsRestart := false }

/-- The held response of a request refused with a reason and values (R178). -/
def refusedFor (tag : Nat) (st : Status) (r : Reason) (v : Values) : Response :=
  { tag := tag, status := st, reason := some r, values := v, overrun := false, startsRestart := false }

/-- The state with its response replaced and nothing else changed. -/
def State.answering (s : State) (r : Response) : State := { s with response := some r }

/-- An order can be placed for a tap port: the port has an order, or the queue has room (R94). -/
abbrev State.canPlace (s : State) (tap port : Nat) : Prop :=
  (s.order? tap port).isSome ∨ s.orders.queue.length < Config.orders

/-- The order that stands for a port after a placement (R94). -/
def State.placedOrder (s : State) (tap port : Nat) (setting : Setting) (origin : Option Nat) : Order :=
  match s.order? tap port with
  | some o =>
    if o.state = .sent then { o with followOn := some setting, origin := origin }
    else { o with setting := setting, attempts := 0, origin := origin }
  | none => s.newOrder tap port setting origin

/-- The Order Queue after a placement (R94): the port's order rewritten in its place, or a new one at the tail. -/
def State.queuePlaced (s : State) (tap port : Nat) (setting : Setting) (origin : Option Nat) : List Order :=
  match s.order? tap port with
  | some held =>
    s.orders.queue.map (fun o =>
      if o.tap = tap ∧ o.port = port then
        (if held.state = .sent then { o with followOn := some setting, origin := origin }
         else { o with setting := setting, attempts := 0, origin := origin })
      else o)
  | none =>
    s.orders.queue ++ [{ tap := tap, port := port, setting := setting, state := if s.plant.dark tap then .held else .queued
                         attempts := 0, origin := origin, followOn := none }]

/-- The Poll Engine without an element that is withdrawn from polling (R77, R82, R85). -/
def PollEngine.withdrawn (p : PollEngine) (index : Nat) : PollEngine :=
  { p with verify := p.verify.filter (fun i => i != index)
           flight := p.flight.map (fun f => if f.element = index then { f with void := true } else f) }

/-- What is left where a change of poll states has left the Poll Engine as `p` (R79): a new round begins with the timer EXPIRED
and no element left in the round, and otherwise nothing more happens. -/
def State.roundChecked (p : PollEngine) (t : State) : Prop :=
  (p.expired = false ∨ (∃ j x, p.position ≤ j ∧ t.element? j = some x ∧ x.inRound = true) → t.poll = p) ∧
  (p.expired = true → (∀ j x, p.position ≤ j → t.element? j = some x → x.inRound = false) →
    t.poll = { p with position := 1, expired := false, periodInForce := p.roundPeriod })

/-- The walk the Plant Tree begins where none runs (R66), from the tree as `p`: at the head of the queue, else over the whole
tree where the re-derive flag is set, else none. What the elements hold is left to the statement that uses it. -/
def State.walkBegun (p : PlantTree) (t : State) : Prop :=
  (∀ head rest, p.queue = head :: rest → t.plant = { p with
    elements := t.plant.elements, queue := rest
    walk := .propagation { element := head, mark := .none, failMinute := 0, darkened := 0, relit := 0 } none }) ∧
  (p.queue = [] → p.rederive = true →
    t.plant = { p with elements := t.plant.elements, rederive := false, walk := .rederive 0 [] }) ∧
  (p.queue = [] → p.rederive = false → t.plant = { p with elements := t.plant.elements, walk := .idle })

/-- The Plant Tree after a propagation request for an element, but for what the elements hold (R65, R66): the request enters
the Propagation Queue, merges into the element's entry, or sets the re-derive flag; a running walk goes on, and where none runs
one begins. -/
def State.walkRequested (s t : State) (index : Nat) : Prop :=
  let entered : PlantTree :=
    if s.plant.rederive = true ∨ index ∈ s.plant.queue then s.plant
    else if s.plant.queue.length < Config.propagationQueue then { s.plant with queue := s.plant.queue ++ [index] }
    else { s.plant with rederive := true }
  (s.plant.walk ≠ .idle → t.plant = { entered with elements := t.plant.elements }) ∧
  (s.plant.walk = .idle → State.walkBegun entered t)

/-- What the readers of the clock take from a minute number offered outside a restart (R45, R52, R145, R182, R183): the
switchover at or past its minute, the air ends, and the accrual tick, whose walk begins, which becomes the pending tick, or
which is lost. `s` is the part before the offer, with the clock-set flag and the last tick minute the clock then has. That
LOST TICK is posted after SWITCHOVER DONE is DEDUCED (entry 7). -/
def State.minuteTaken (s t : State) (now : Nat) : Prop :=
  let tick := now / 15 * 15
  let ticks : Prop := s.clock.isSet = true ∧ ∀ l, s.clock.lastTick = some l → l < tick
  let switched : NoticeQueue := match s.lineUp.editor with
    | .scheduled g m => if m ≤ now then s.notices.post now (.switchoverDone g.number) .none else s.notices
    | _ => s.notices
  (∀ g m, s.lineUp.editor = .scheduled g m → m ≤ now →
    t.lineUp.current = g ∧ t.lineUp.editor = .idle ∧ t.lineUp.tiers = s.lineUp.tiers ∧
    t.down = { s.down with phase := .time, lastChannel := none }) ∧
  ((∀ g m, s.lineUp.editor = .scheduled g m → now < m) →
    t.lineUp = { s.lineUp with offers := t.lineUp.offers } ∧ t.down = s.down) ∧
  (∀ k o, t.lineUp.offers.get? k = some o ↔ s.lineUp.offers.get? k = some o ∧ now < o.airEnd) ∧
  (ticks → t.clock.lastTick = some tick ∧
    (s.accrual.length = none → t.accrual = s.accrual ∧ t.notices = switched) ∧
    (s.accrual.length.isSome = true → s.accrual.walk = .none → s.accrual.pendingPeriod = none →
      s.accrual.pendingTick = none →
      t.accrual = { s.accrual with walk := .accrual tick, position := 0 } ∧ t.notices = switched) ∧
    (s.accrual.length.isSome = true → s.accrual.walk ≠ .none ∨ s.accrual.pendingPeriod.isSome = true →
      s.accrual.pendingTick = none →
      t.accrual = { s.accrual with pendingTick := some tick } ∧ t.notices = switched) ∧
    (s.accrual.length.isSome = true → s.accrual.pendingTick.isSome = true →
      t.accrual = s.accrual ∧ t.notices = switched.post now (.lostTick tick none) .none)) ∧
  (¬ ticks → t.accrual = s.accrual ∧ t.clock.lastTick = s.clock.lastTick ∧ t.notices = switched)

/-- The state after a list of commands taken one after the other, none where one of them stops. -/
def runAll : List Instr → State → Option State
  | [], s => some s
  | c :: r, s =>
    match exec c s with
    | .next t => runAll r t
    | _ => none

/-- The channel n with record c is the first of a generation above the last one sent, or the lowest (R124). -/
def Generation.firstAbove (g : Generation) (last : Option Nat) (n : Nat) (c : Channel) : Prop :=
  g.channels.wf = true ∧ g.channels.get? n = some c ∧ (∀ l, last = some l → l < n) ∧
  ∀ k, k < n → (∀ l, last = some l → l < k) → g.channels.get? k = none

/-- A generation has no channel above the last one sent (R124). -/
def Generation.noneAbove (g : Generation) (last : Option Nat) : Prop :=
  ∀ k, (∀ l, last = some l → l < k) → g.channels.get? k = none

-- what a change of several blocks leaves

/-- The mark and the fail minute of an element to which a restart gives back a taken mark (the table of R72 step 1). -/
def givenBack (taken : Mark) (takenMinute : Nat) (mark : Mark) (minute : Nat) : Mark × Nat :=
  match taken, mark with
  | .none, m => (m, minute)
  | .outage, .none => (.outage, takenMinute)
  | .restored r, .none => (.restored r, takenMinute)
  | .outage, .restored _ => (.none, minute)
  | .restored _, .outage => (.none, takenMinute)
  | .outage, .outage => (.outage, takenMinute)
  | .restored _, .restored r => (.restored r, minute)

/-- The addresses of the DISABLE entries of an Expedite List, in its order. -/
def disables (l : List ExpediteEntry) : List Nat :=
  l.filterMap (fun e => match e with | .disable a => some a | _ => none)

/-- What a restart leaves in the Element Table (R72, R91 steps 2 and 3): every element with its links, address, flags and
port records, UP become UNVERIFIED, the miss counts 0, and each mark the walk has taken and not paid given back. -/
def State.elementsRestarted (s t : State) : Prop :=
  (∀ i, s.element? i = none → t.element? i = none) ∧
  (∀ i e, s.element? i = some e → ∃ e', t.element? i = some e' ∧
    e' = { e with role := e'.role, mark := e'.mark, failMinute := e'.failMinute } ∧
    e'.role.kind = e.role.kind ∧ e'.role.ports = e.role.ports ∧
    e'.role.poll? = e.role.poll?.map (fun p =>
      { p with misses := 0, state := if p.state = .up then .unverified else p.state }) ∧
    ((∀ o, o ∈ s.plant.walk.taken → o.element ≠ i) → e'.mark = e.mark ∧ e'.failMinute = e.failMinute) ∧
    ((s.plant.walk.taken.map (fun o => o.element)).Nodup → ∀ o, o ∈ s.plant.walk.taken → o.element = i →
      (e'.mark, e'.failMinute) = givenBack o.mark o.failMinute e.mark e.failMinute))

/-- The Notice Queue after a restart (R127 step 5, R159 step 1, R177): every held notice gone, RESTARTED at the head, then a
DISABLE LOST for each DISABLE the Expedite List held, then the LOST TICK of an accrual walk. -/
def State.noticesRestarted (cause : RestartCause) (s : State) : NoticeQueue :=
  let head : NoticeQueue := { s.notices with
    held := [{ body := .restarted cause s.notices.held.length, subject := .none
               first := s.clock.minute, last := s.clock.minute, count := 1 }] }
  let lost := (disables s.down.expedite).foldl (fun q a => q.post s.clock.minute .disableLost (.converter a)) head
  match s.accrual.walk with
  | .accrual tick => lost.post s.clock.minute (.lostTick tick (some s.accrual.position)) .none
  | _ => lost

/-- What a restart leaves when it begins (R186), told by the cause that began it. -/
def State.restartedBy (cause : RestartCause) (s t : State) : Prop :=
  t.restarting = true ∧ t.response = none ∧
  -- R179, R140: what the two inputs are taking in is abandoned
  t.select = (if s.select = .idle then .idle else .abandoned) ∧
  t.up.reception = (if s.up.reception = .idle then .idle else .abandoned) ∧
  -- kept whole: R4, R30, R37, R48, R182, R185
  t.clock = s.clock ∧ t.systemCode = s.systemCode ∧ t.rate = s.rate ∧ t.pinHeld = s.pinHeld ∧ t.subs = s.subs ∧ t.lineUp = s.lineUp ∧
  t.pending = s.pending ∧
  t.notices = s.noticesRestarted cause ∧
  -- R72: no walk, an empty queue, the whole tree to be derived again
  t.plant.rootFirst = s.plant.rootFirst ∧ t.plant.queue = [] ∧ t.plant.rederive = true ∧ t.plant.walk = .idle ∧
  s.elementsRestarted t ∧
  -- R91: no poll in flight; the settings and the round record kept until the completion; the Verify List rebuilt
  t.poll = { s.poll with flight := none, verify := t.poll.verify } ∧
  (s.plant.elements.wf = true → t.poll.verify.Pairwise (fun i j => i < j) ∧
    ∀ i, i ∈ t.poll.verify ↔ t.pollState? i = some .unverified) ∧
  -- R109: no frame in flight, every SENT order QUEUED in its place, with its follow-on
  t.orders.flight = none ∧
  t.orders.queue = s.orders.queue.map (fun o =>
    if o.state = .sent then
      (match o.followOn with
       | some x => { o with state := .queued, setting := x, attempts := 0, followOn := none }
       | none => { o with state := .queued })
    else o) ∧
  -- R127
  t.down = { transmission := none, orderRun := 0, mapGap := 0, cursor := 0, passes := s.down.passes, phase := .time,
             lastChannel := none, expedite := []
             drops := if (disables s.down.expedite).length = 0 then s.down.drops
                      else min 65535 (s.down.drops + (disables s.down.expedite).length) } ∧
  -- R140
  t.up = { window := none, late := none, counters := s.up.counters, reception := t.up.reception } ∧
  -- R159
  (∀ tick, s.accrual.walk = .accrual tick → t.accrual = { s.accrual with walk := .none, position := 0 }) ∧
  ((∀ tick, s.accrual.walk ≠ .accrual tick) → t.accrual = s.accrual)

/-- The orders of the frame in flight that return to the head of the queue, in frame order: those without a result on a lit
tap that have an attempt left (R102, R104). The result of a port is true for ACK, false for NAK. -/
def State.returned (s : State) (f : OrderFlight) (result : Nat → Option Bool) : List Order :=
  f.ports.filterMap (fun p =>
    match s.order? f.tap p with
    | some o =>
      if result p = none ∧ s.plant.dark f.tap = false ∧ o.attempts < 2 then
        (match o.followOn with
         | some x => some { o with state := .queued, setting := x, attempts := 0, followOn := none }
         | none => some { o with state := .queued, attempts := o.attempts + 1 })
      else none
    | none => none)

/-- The orders that keep their place when the frame in flight ends: those of no port of the frame, and on a dark tap those
without a result, which are HELD there (R103). -/
def State.keptOrders (s : State) (f : OrderFlight) (result : Nat → Option Bool) : List Order :=
  s.orders.queue.filterMap (fun o =>
    if o.tap = f.tap ∧ o.port ∈ f.ports then
      (if result o.port = none ∧ s.plant.dark f.tap = true then
        (match o.followOn with
         | some x => some { o with state := .held, setting := x, attempts := 0, followOn := none }
         | none => some { o with state := .held })
       else none)
    else some o)

/-- The new orders at the tail when the frame in flight ends: the follow-ons of the orders that left the queue, in frame
order (R95, R100, R101, R104); at an expiry or a fourth HOLD that order is a DESIGN CHOICE (entry 30). -/
def State.followedOn (s : State) (f : OrderFlight) (result : Nat → Option Bool) : List Order :=
  f.ports.filterMap (fun p =>
    match s.order? f.tap p with
    | some o =>
      if result p ≠ none ∨ (s.plant.dark f.tap = false ∧ 2 ≤ o.attempts) then
        o.followOn.map (fun x =>
          { tap := f.tap, port := p, setting := x, state := if s.plant.dark f.tap then .held else .queued
            attempts := 0, origin := o.origin, followOn := none })
      else none
    | none => none)

/-- The ORDER FAILED notice of a port of the frame, if it has one: FAULT at a NAK (R101), UNKNOWN at a third silent attempt
on a lit tap (R104). -/
def State.failedPort (s : State) (f : OrderFlight) (result : Option Bool) (o : Order) : Option (OrderFailure × Confirmed) :=
  match result with
  | some true => none
  | some false => some (.portFault, .fault)
  | none => if s.plant.dark f.tap = false ∧ 2 ≤ o.attempts then some (.noAnswer, .unknown) else none

/-- The end of an order frame by the result of each of its ports (R100 to R105): the Order Queue, the port records, the
ORDER FAILED notices with their subjects, and nothing else of the Plant Tree. -/
def State.frameEnded (s t : State) (f : OrderFlight) (result : Nat → Option Bool) : Prop :=
  t.orders = { queue := s.returned f result ++ s.keptOrders f result ++ s.followedOn f result, flight := none } ∧
  t.notices = f.ports.foldl (fun q p =>
    match s.order? f.tap p with
    | some o =>
      (match s.failedPort f (result p) o with
       | some (reason, written) => q.post s.clock.minute (.orderFailed reason f.tap p o.setting o.origin written)
           (match (s.port? f.tap p).bind (fun r => r.link) with
            | some n => .slot n
            | none => .tapPort f.tap p)
       | none => q)
    | none => q) s.notices ∧
  (∀ p o record, p ∈ f.ports → s.order? f.tap p = some o → s.port? f.tap p = some record →
    t.port? f.tap p = some { record with
      confirmed :=
        if result p = some true then
          (match o.setting with | .off => .off | .limited => .limited | .full => .full)
        else
          (match s.failedPort f (result p) o with
           | some (_, written) => written
           | none => record.confirmed) }) ∧
  (∀ a b, ¬ (a = f.tap ∧ b ∈ f.ports) → t.port? a b = s.port? a b) ∧
  (∀ i, s.element? i = none → t.element? i = none) ∧
  (∀ i e, s.element? i = some e → ∃ e', t.element? i = some e' ∧ e' = { e with role := e'.role } ∧
    e'.role.kind = e.role.kind ∧ e'.role.poll? = e.role.poll? ∧ (i ≠ f.tap → e' = e)) ∧
  t.plant = { s.plant with elements := t.plant.elements }

-- the invariants

/-- Every table holds its canonical form, so that equal tables are equal data. -/
def State.canonical (s : State) : Prop :=
  s.subs.slots.wf = true ∧ s.subs.accounts.wf = true ∧ s.subs.converters.wf = true ∧
  s.lineUp.tiers.wf = true ∧ s.lineUp.current.channels.wf = true ∧
  (∀ g, s.lineUp.editor.next? = some g → g.channels.wf = true) ∧
  s.lineUp.offers.wf = true ∧ s.plant.elements.wf = true

/-- Every entry of the tables lies under a number the part has (00_scope.md, R30, R48, R54). -/
def State.numbered (s : State) : Prop :=
  (∀ n r, s.slot? n = some r → n < Config.slots) ∧
  (∀ n t, s.lineUp.tiers.get? n = some t → n < Config.tiers) ∧
  (∀ n o, s.lineUp.offers.get? n = some o → n < Config.offers) ∧
  (∀ i e, s.element? i = some e → 1 ≤ i ∧ i < Config.elements)

/-- Two entries of an Expedite List with the same key are not held together (R120): the reason of a DECLINE is no part of
its key. -/
def ExpediteEntry.key : ExpediteEntry → ExpediteEntry
  | .refresh slot => .refresh slot
  | .disable address => .disable address
  | .decline slot event _ => .decline slot event .notActive

/-- The queues, lists and counts of the blocks within their limits (R1, R65, R92, R112, R113, R115, R119, R120, R123, R134,
R144, R170, R185); the Expedite List with no entry twice, and one notice for each family and subject. -/
def State.limited (s : State) : Prop :=
  s.orders.queue.length ≤ Config.orders ∧
  s.plant.queue.length ≤ Config.propagationQueue ∧ s.plant.queue.Nodup ∧
  s.down.expedite.length ≤ Config.expedite ∧ s.down.drops ≤ Config.max16 ∧
  (s.down.expedite.map ExpediteEntry.key).Nodup ∧
  s.down.orderRun ≤ Config.orderRun ∧ s.down.mapGap ≤ Config.mapGap ∧
  s.down.cursor ≤ 4095 ∧ s.down.passes ≤ Config.max16 ∧
  s.notices.held.length ≤ Config.notices ∧ s.notices.lost ≤ Config.max16 ∧
  (s.notices.held.map (fun n => (n.body.family, n.subject))).Nodup ∧
  (∀ n, n ∈ s.notices.held → 1 ≤ n.count ∧ n.count ≤ Config.max8 ∧ n.first ≤ Config.max32 ∧ n.last ≤ Config.max32) ∧
  (∀ k, s.systemCode = some k → 1 ≤ k ∧ k ≤ Config.max16) ∧
  s.up.counters.badCheck ≤ Config.max16 ∧ s.up.counters.wrongSystem ≤ Config.max16 ∧
  s.up.counters.malformed ≤ Config.max16 ∧ s.up.counters.late ≤ Config.max16 ∧
  s.up.counters.unmatched ≤ Config.max16 ∧ s.up.counters.unknownConverter ≤ Config.max16

/-- The fields of a record within their values (R3), and those of its statement (R164). -/
def Subscriber.ranged (r : Subscriber) : Prop :=
  1 ≤ r.account ∧ r.account ≤ 99999999 ∧
  (∀ a, r.converter = some a → 1 ≤ a ∧ a ≤ 16777215) ∧
  (∀ p, r.port = some p → 1 ≤ p.tap ∧ p.tap ≤ 1023 ∧ p.port ≤ 7) ∧
  r.ceiling ≤ Config.max16 ∧ r.purchases.length ≤ Config.purchases ∧ r.purchases.Nodup ∧
  r.purchaseTotal ≤ Config.max16 ∧ r.purchaseCount ≤ Config.max8 ∧ r.periodTag ≤ Config.max8 ∧
  r.weight ≤ 17179869183 ∧ r.accumulator ≤ Config.max48 ∧ r.held ≤ Config.max48 ∧ r.spell ≤ Config.max16 ∧
  r.charged ≤ Config.max16 ∧ r.credited ≤ Config.max16 ∧
  (∀ st, r.statement = some st → st.service ≤ Config.max32 ∧ st.purchases ≤ Config.max32 ∧
    st.purchaseCount ≤ Config.max8 ∧ st.charged ≤ Config.max16 ∧ st.credited ≤ Config.max16 ∧ st.merged ≤ 15 ∧
    st.closing ≤ Config.max8)

/-- A line-up generation within its values: its number, at most 120 channels, and the fields of each (R36). -/
def Generation.ranged (g : Generation) : Prop :=
  g.number ≤ Config.max8 ∧ g.channels.size ≤ Config.channels ∧
  (∀ n c, g.channels.get? n = some c →
    2 ≤ n ∧ n ≤ 999 ∧ 2 ≤ c.carrier ∧ c.carrier ≤ 158 ∧ c.program ≤ 15 ∧ c.tier ≤ 31)

/-- The fields of an element within their values (R55, R57, R58, R87). -/
def Element.ranged (e : Element) : Prop :=
  e.parent ≤ 1023 ∧ e.group ≤ 62 ∧ e.member ≤ 254 ∧ e.failMinute ≤ Config.max32 ∧
  (e.role.kind = .tap → e.role.ports.length = 4 ∨ e.role.ports.length = 8) ∧
  (∀ p, e.role.poll? = some p → p.misses ≤ 15 ∧ -200 ≤ p.low ∧ p.low ≤ p.high ∧ p.high ≤ 200 ∧
    1 ≤ p.hysteresis ∧ p.hysteresis ≤ 30 ∧ -200 ≤ p.lastLevel ∧ p.lastLevel ≤ 200)

/-- What a walk of the Plant Tree owes, within its values (R68). -/
def Owing.ranged (o : Owing) : Prop :=
  o.failMinute ≤ Config.max32 ∧ o.darkened ≤ Config.slots ∧ o.relit ≤ Config.slots

/-- Every record, tier, generation, offer and element, and the fields of the Poll Engine and the Accrual Engine, within
their values (R3, R30, R36, R48, R55, R68, R73, R78, R142, R144, R155, R166). -/
def State.ranged (s : State) : Prop :=
  (∀ n r, s.slot? n = some r → r.ranged) ∧
  (∀ n t, s.lineUp.tiers.get? n = some t → t.currentRate ≤ Config.max16 ∧ t.nextRate ≤ Config.max16 ∧
    t.currentQ ≤ 409038262 ∧ t.previousQ ≤ 409038262 ∧ t.holders ≤ Config.slots) ∧
  s.lineUp.current.ranged ∧ (∀ g, s.lineUp.editor.next? = some g → g.ranged) ∧
  (∀ n o, s.lineUp.offers.get? n = some o → 1 ≤ o.event ∧ o.event ≤ Config.max16 ∧ 2 ≤ o.channel ∧ o.channel ≤ 999 ∧
    o.price ≤ 9999 ∧ o.tier ≤ 31 ∧ o.opens < o.closes ∧ o.closes ≤ o.airEnd ∧ o.airEnd ≤ Config.max32) ∧
  (∀ i e, s.element? i = some e → e.ranged) ∧ (∀ o, o ∈ s.plant.walk.taken → o.ranged) ∧
  s.poll.timeout ≤ 3 ∧ 1 ≤ s.poll.missLimit ∧ s.poll.missLimit ≤ 15 ∧ 5 ≤ s.poll.roundPeriod ∧
  s.poll.roundPeriod ≤ 600 ∧ 5 ≤ s.poll.periodInForce ∧ s.poll.periodInForce ≤ 600 ∧
  1 ≤ s.poll.position ∧ s.poll.position ≤ Config.elements ∧
  (∀ l, s.down.lastChannel = some l → 2 ≤ l ∧ l ≤ 999) ∧
  (∀ days, s.accrual.length = some days → 28 ≤ days ∧ days ≤ 31) ∧
  (∀ days, s.accrual.pendingPeriod = some days → 28 ≤ days ∧ days ≤ 31) ∧
  s.accrual.sequence ≤ Config.max8 ∧ s.accrual.threshold ≤ 192 ∧ s.accrual.staged ≤ 192 ∧
  s.accrual.position ≤ Config.slots ∧
  (∀ tick, s.accrual.pendingTick = some tick → tick % 15 = 0 ∧ tick ≤ Config.max32) ∧
  (∀ tick, s.accrual.walk = .accrual tick → tick % 15 = 0 ∧ tick ≤ Config.max32) ∧
  (∀ previous closing closed merged, s.accrual.walk = .period previous closing closed merged →
    previous ≤ 192 ∧ closed ≤ s.accrual.position ∧ merged ≤ closed)

/-- The clock within its fields, the last tick minute a tick minute, absent while the clock is unset (R182, R183). -/
def State.clocked (s : State) : Prop :=
  s.clock.minute ≤ Config.max32 ∧ s.clock.seconds ≤ 59 ∧
  (∀ l, s.clock.lastTick = some l → l % Config.tickMinutes = 0) ∧
  (s.clock.isSet = false → s.clock.lastTick = none)

/-- The two indexes hold exactly the keys of the non-vacant records (R5, R6). -/
def State.indexed (s : State) : Prop :=
  (∀ a n, s.subs.accounts.get? a = some n ↔ ∃ r, s.slot? n = some r ∧ r.account = a) ∧
  (∀ a n, s.subs.converters.get? a = some n ↔ ∃ r, s.slot? n = some r ∧ r.converter = some a)

/-- A tap port links to a slot exactly when that slot's record names the port (R7), and every ACTIVE or SUSPENDED record
names a port (R8). -/
def State.linked (s : State) : Prop :=
  (∀ n tap port, (∃ r, s.slot? n = some r ∧ r.port = some { tap := tap, port := port }) ↔
    ∃ p, s.port? tap port = some p ∧ p.link = some n) ∧
  (∀ n r, s.slot? n = some r → r.state = .active ∨ r.state = .suspended → r.port.isSome = true)

/-- No two channels of a generation share both carrier and program (R36). -/
def Generation.apart (g : Generation) : Prop :=
  ∀ n m c d, g.channels.get? n = some c → g.channels.get? m = some d → n ≠ m →
    c.carrier ≠ d.carrier ∨ c.program ≠ d.program

/-- The references of the line-up (R34, R36, R48): the tier of every channel of CURRENT and of NEXT and of every live offer is
defined; the channel of every live offer is IMPULSE in CURRENT and, while SCHEDULED, in NEXT; no two offers share an event
code; no two channels of CURRENT, nor of NEXT while SCHEDULED, share carrier and program; NEXT's number follows CURRENT's. -/
def State.referred (s : State) : Prop :=
  (∀ n c, s.lineUp.current.channels.get? n = some c → (s.lineUp.tiers.get? c.tier).isSome = true) ∧
  (∀ g n c, s.lineUp.editor.next? = some g → g.channels.get? n = some c → (s.lineUp.tiers.get? c.tier).isSome = true) ∧
  (∀ n o, s.lineUp.offers.get? n = some o → (s.lineUp.tiers.get? o.tier).isSome = true ∧
    (∃ c, s.lineUp.current.channels.get? o.channel = some c ∧ c.kind = .impulse) ∧
    (∀ g m, s.lineUp.editor = .scheduled g m → ∃ c, g.channels.get? o.channel = some c ∧ c.kind = .impulse)) ∧
  (∀ n m o p, s.lineUp.offers.get? n = some o → s.lineUp.offers.get? m = some p → o.event = p.event → n = m) ∧
  s.lineUp.current.apart ∧ (∀ g m, s.lineUp.editor = .scheduled g m → g.apart) ∧
  (∀ g, s.lineUp.editor.next? = some g → g.number = (s.lineUp.current.number + 1) % 256)

/-- The Plant Tree is one tree (R54, R56, R57): every element hangs from the root, a node or an amplifier, and lies below the
root; the child list of an element holds exactly the elements it is the parent of, none twice; and no two elements share
an address. -/
def State.treeShaped (s : State) : Prop :=
  (∀ i e, s.element? i = some e → e.parent = 0 ∨ ∃ p, s.element? e.parent = some p ∧ p.role.kind ≠ .tap) ∧
  (∀ i e, s.element? i = some e → s.plant.below 0 (Config.elements + 1) i = true) ∧
  (∀ p, (s.plant.children p).Nodup) ∧
  (∀ p i, (p = 0 ∨ (s.element? p).isSome = true) →
    (i ∈ s.plant.children p ↔ ∃ e, s.element? i = some e ∧ e.parent = p)) ∧
  (∀ i j e x, s.element? i = some e → s.element? j = some x → e.group = x.group → e.member = x.member → i = j)

/-- The elements a walk visits after one it has visited, in pre-order (R56). -/
def PlantTree.onward (t : PlantTree) (top : Nat) : Nat → Nat → List Nat
  | 0, _ => []
  | fuel + 1, i =>
    match t.after top i with
    | some n => n :: t.onward top fuel n
    | none => []

/-- The elements the running walk has still to visit (R68, R71). -/
def PlantTree.unvisited (t : PlantTree) : List Nat :=
  match t.walk with
  | .idle => []
  | .propagation own none => own.element :: t.onward own.element Config.elements own.element
  | .propagation own (some l) => t.onward own.element Config.elements l
  | .rederive l _ => t.onward 0 Config.elements l

/-- Where the running walk stands (R68, R71): a propagation walk at an element of its own element's subtree; the elements that
owe a re-derive walk a notice, none twice, above the element it visits next. -/
def State.walkPlaced (s : State) : Prop :=
  match s.plant.walk with
  | .idle => True
  | .propagation _ none => True
  | .propagation own (some l) => s.plant.below own.element (Config.elements + 1) l = true
  | .rederive l owing => (owing.map (fun o => o.element)).Nodup ∧
      ∀ o, o ∈ owing → ∃ n, s.plant.after 0 l = some n ∧ o.element ≠ n ∧
        s.plant.below o.element (Config.elements + 1) n = true

/-- The flags of an element agree with its parent's dark flag and its poll state (R63). -/
def State.flagsRight (s : State) (e : Element) : Prop :=
  e.shadow = s.plant.dark e.parent ∧
  e.dark = (e.shadow || decide (e.role.poll?.map (fun p => p.state) = some .failed)) ∧
  (∀ p, e.role.poll? = some p → e.shadow = true → p.state = .off ∨ p.state = .shadowed)

/-- The flags of every element agree, but for the exceptions of R63: the whole tree while the re-derive flag is set, the
subtree of an element that is queued, and what the running walk has still to visit. -/
def State.flagsAgree (s : State) : Prop :=
  s.plant.rederive = false → ∀ i e, s.element? i = some e →
    (∀ q, q ∈ s.plant.queue → s.plant.below q (Config.elements + 1) i = false) → i ∉ s.plant.unvisited →
    s.flagsRight e

/-- The number of records that hold a tier. -/
def State.holdersOf (s : State) (n : Nat) : Nat :=
  (s.subs.slots.entries.filter (fun p => hasTier p.2.tiers n)).length

/-- The holder count of each tier is the number of records holding it, and every held tier is defined (R19, R30). -/
def State.counted (s : State) : Prop :=
  (∀ n t, s.lineUp.tiers.get? n = some t → t.holders = s.holdersOf n) ∧
  (∀ m r n, s.slot? m = some r → hasTier r.tiers n = true → (s.lineUp.tiers.get? n).isSome = true)

/-- Outside a period walk every record's tag names the current period; in one, so does that of every record the walk has
passed (R33, R143). -/
def State.tagged (s : State) : Prop :=
  match s.accrual.walk with
  | .period _ _ _ _ => ∀ n r, s.slot? n = some r → n < s.accrual.position → r.periodTag = s.accrual.sequence
  | _ => ∀ n r, s.slot? n = some r → r.periodTag = s.accrual.sequence

/-- A record's weight is the sum of the per-tick rates of its tiers for the period its tag names (R143). -/
def State.weighed (s : State) : Prop :=
  ∀ n r, s.slot? n = some r → r.weight = s.weightFor r.periodTag r.tiers

/-- The threshold in force for a record (R151): the previous one for a record a period walk has not brought to the new
period. -/
def State.thresholdFor (s : State) (r : Subscriber) : Nat :=
  if r.periodTag = s.accrual.sequence then s.accrual.threshold
  else s.accrual.walk.previous?.getD s.accrual.threshold

/-- A record's held amount is zero whenever its spell count is zero or is at least the threshold in force for it (R151); a
record in the new period before a period walk has reached it has no spell (R162). -/
def State.heldRight (s : State) : Prop :=
  (∀ n r, s.slot? n = some r → r.spell = 0 ∨ s.thresholdFor r ≤ r.spell → r.held = 0) ∧
  (∀ n r, s.slot? n = some r → s.accrual.walk.previous?.isSome = true → s.accrual.position ≤ n →
    r.periodTag = s.accrual.sequence → r.spell = 0)

/-- The poll fields agree (R76, R77, R82): an element is OFF exactly when its poll enable is no; the Verify List holds no
element twice, and only UNVERIFIED ones; the element of a poll in flight that is not void is in polling and not on the
list. -/
def State.pollsAgree (s : State) : Prop :=
  (∀ i e p, s.element? i = some e → e.role.poll? = some p → (p.state = .off ↔ p.enable = false)) ∧
  s.poll.verify.Nodup ∧
  (∀ i, i ∈ s.poll.verify → s.pollState? i = some .unverified) ∧
  (∀ f, s.poll.flight = some f → f.void = false →
    f.element ∉ s.poll.verify ∧ ∃ p, s.pollState? f.element = some p ∧ p.inRound = true)

/-- No two orders are for one tap port; the SENT orders are those of the frame in flight, of 1 to 4 ports (R92, R98); an
order in the queue shows at most 2 attempts (R93). -/
def State.ordersAgree (s : State) : Prop :=
  (s.orders.queue.map (fun o => (o.tap, o.port))).Nodup ∧
  (∀ o, o ∈ s.orders.queue → o.attempts < Config.attempts) ∧
  (match s.orders.flight with
   | none => ∀ o, o ∈ s.orders.queue → o.state ≠ .sent
   | some f => f.ports.Nodup ∧ 1 ≤ f.ports.length ∧ f.ports.length ≤ Config.frameActions ∧ f.holds ≤ Config.holds ∧
      (∀ o, o ∈ s.orders.queue → (o.state = .sent ↔ o.tap = f.tap ∧ o.port ∈ f.ports)) ∧
      (∀ p, p ∈ f.ports → (s.order? f.tap p).isSome = true))

end Sys2Proof.Machine
end

