-- ==== Sys2Proof/Certificates/Slice0/Obligations.lean ====
section
/-! DEFINITION. The statements for the provers. A statement's docstring names the rules it formalises; where one rests on a
choice of the model it names the log entry. -/

open Sys2Proof Sys2Proof.Machine

-- the machine and the Management Port

/-- A step takes the command at the front of the queue and runs its meaning with the queue's rest; with an empty queue the
block idles; and every command is taken: none is refused by the model, none faults, and no meaning touches the queue, which is
the model's own (entry 20). -/
def Obligations.StepTakesFront : Prop :=
  (∀ (c : Instr) (rest : List Instr) (s : State), s.pending = c :: rest → step s = exec c (s.withPending rest)) ∧
  (∀ s : State, s.pending = [] → step s = .next s) ∧
  (∀ (c : Instr) (s : State), ∃ t, exec c s = .next t ∧ t.pending = s.pending)

/-- POWER_ON_RESET puts every block at its power-on values from any state, a restart in progress included (R4, R30, R36, R37,
R48, R72, R109, R127, R140, R144, R177, R186), and samples the straps: strap value 3 is 64,000 bit/s (00_scope.md). The rates
of the other strap values are DEDUCED and the rate of the reset state is the model's choice (entry 5), and so is that the
RESET pin keeps the level the board gives it (entry 11); the commands that wait stay waiting (entry 20). -/
def Obligations.PowerOnReset : Prop :=
  (∀ (straps : Nat) (s : State), ∃ t, exec (.powerOnReset straps) s = .next t ∧
     t = { State.reset with rate := t.rate, pinHeld := s.pinHeld, pending := s.pending } ∧ (straps = 3 → t.rate = .bps64000)) ∧
  (let s := State.reset
   s.response = none ∧ s.select = .idle ∧ s.ready = false ∧ s.alarm = false ∧ s.restarting = false ∧ s.pinHeld = false ∧
   s.systemCode = none ∧ s.clock = { minute := 0, seconds := 0, isSet := false, lastTick := none } ∧
   (∀ n, s.slot? n = none) ∧ (∀ a, s.subs.accounts.get? a = none) ∧ (∀ a, s.subs.converters.get? a = none) ∧
   (∀ n, s.lineUp.tiers.get? n = none) ∧ s.lineUp.current.number = 0 ∧ s.lineUp.current.channels.size = 0 ∧
   s.lineUp.editor = .idle ∧ (∀ n, s.lineUp.offers.get? n = none) ∧
   s.plant.rootFirst = none ∧ (∀ i, s.element? i = none) ∧ s.plant.queue = [] ∧ s.plant.rederive = false ∧
   s.plant.walk = .idle ∧
   s.poll.timeout = 1 ∧ s.poll.missLimit = 3 ∧ s.poll.roundPeriod = 60 ∧ s.poll.verify = [] ∧ s.poll.flight = none ∧
   s.poll.position = 1 ∧ s.poll.expired = false ∧
   s.orders.queue = [] ∧ s.orders.flight = none ∧
   s.down.transmission = none ∧ s.down.orderRun = 0 ∧ s.down.mapGap = 0 ∧ s.down.cursor = 0 ∧ s.down.passes = 0 ∧
   s.down.phase = .time ∧ s.down.lastChannel = none ∧ s.down.expedite = [] ∧ s.down.drops = 0 ∧
   s.up.window = none ∧ s.up.late = none ∧ s.up.reception = .idle ∧
   s.up.counters = { badCheck := 0, wrongSystem := 0, malformed := 0, late := 0, unmatched := 0, unknownConverter := 0 } ∧
   s.accrual.length = none ∧ s.accrual.sequence = 0 ∧ s.accrual.threshold = 16 ∧ s.accrual.staged = 16 ∧
   s.accrual.walk = .none ∧ s.accrual.position = 0 ∧ s.accrual.pendingPeriod = none ∧ s.accrual.pendingTick = none ∧
   s.notices.held = [] ∧ s.notices.lost = 0 ∧ s.notices.level = .routine)

/-- One select period outside a restart: a response clocked out whole is read, one clocked out in part stays; data in is taken
where the buffer is empty after that, and otherwise only marks the held response (R179, R181). A frame that fails a check of
its envelope is answered BAD REQUEST with the tag it could hold and the reason of the first check that fails, and changes no
state (R180). In a restart nothing of a select period is kept, and one that was running when a restart began is abandoned
(R179, R186). That the command's form asserted stands for the beginning of a select period is the model's choice, and that one
which begins in a restart is abandoned too is DEDUCED (entry 28). -/
def Obligations.SelectPeriodServed : Prop :=
  (∀ (dataIn : List Byte) (s : State), exec (.selectPeriod .asserted dataIn) s = .next { s with
     select := if s.select = .idle then (if s.restarting = true then .abandoned else .taking) else s.select }) ∧
  (∀ (clocked : Nat) (dataIn : List Byte) (s : State),
     (s.restarting = true ∨ s.select = .abandoned →
       exec (.selectPeriod (.released clocked) dataIn) s = .next { s with select := .idle }) ∧
     (s.response = none → exec (.selectPeriod (.released clocked) []) s = .next { s with select := .idle }) ∧
     (∀ r, s.restarting = false → s.select ≠ .abandoned → s.response = some r → clocked < r.bytes.length →
       exec (.selectPeriod (.released clocked) []) s = .next { s with select := .idle } ∧
       (dataIn ≠ [] → exec (.selectPeriod (.released clocked) dataIn) s =
         .next { s with select := .idle, response := some { r with overrun := true } })) ∧
     (∀ r, s.restarting = false → s.select ≠ .abandoned → s.response = some r → r.bytes.length ≤ clocked →
       r.startsRestart = false →
       exec (.selectPeriod (.released clocked) []) s = .next { s with select := .idle, response := none } ∧
       exec (.selectPeriod (.released clocked) dataIn) s =
         exec (.selectPeriod (.released 0) dataIn) { s with select := .idle, response := none })) ∧
  (∀ (clocked : Nat) (bs : List Byte) (s : State), s.restarting = false → s.select ≠ .abandoned → s.response = none →
     bs ≠ [] →
     (bs.length < 4 → exec (.selectPeriod (.released clocked) bs) s =
       .next { s with select := .idle, response := some (refusedFor (frameTag bs) .badRequest .length .none) }) ∧
     (4 ≤ bs.length → checkedContent bs = none → exec (.selectPeriod (.released clocked) bs) s =
       .next { s with select := .idle, response := some (refusedFor (frameTag bs) .badRequest .check .none) }) ∧
     (∀ tag code body, 4 ≤ bs.length → checkedContent bs = some (tag :: code :: body) →
       (code.toNat = 0 ∨ 50 < code.toNat → exec (.selectPeriod (.released clocked) bs) s =
         .next { s with select := .idle, response := some (refusedFor tag.toNat .badRequest .code .none) }) ∧
       (1 ≤ code.toNat → code.toNat ≤ 50 → requestOf tag.toNat code.toNat body = none →
         exec (.selectPeriod (.released clocked) bs) s =
           .next { s with select := .idle, response := some (refusedFor tag.toNat .badRequest .length .none) })))

/-- Every request whose operands fit their fields is what the part parses from the frame that carries it: no bit of a request
frame is dropped (R190, R191). -/
def Obligations.RequestFrameRoundTrip : Prop :=
  ∀ (i : Instr) (bytes : List Byte), i.wf = true → i.requestFrame = some bytes → parseRequest bytes = .request i

/-- A request row has the effect of a select period in which the host clocks out whatever is held to its end and sends the
request's frame (R179, R180, R190). The row itself is the model's reading of "one request" (entry 1). -/
def Obligations.RequestRowIsItsFrame : Prop :=
  ∀ (i : Instr) (bytes : List Byte) (clocked : Nat) (s : State), i.wf = true → i.requestFrame = some bytes →
    (∀ r, s.response = some r → r.bytes.length ≤ clocked) →
    exec i s = exec (.selectPeriod (.released clocked) bytes) s

/-- Every request taken outside a restart is answered under its tag with the overrun mark clear, whatever response was held
before (R178); one sent during a restart, or in a select period that a restart has abandoned, is discarded (R179, R186); and
one refused, that is, answered otherwise than OK or ACCEPTED, changes no state (R2). That a request row reads the held
response first is the model's choice (entry 1), and so is a select period begun by its assertion (entry 28). -/
def Obligations.RequestsAreAnswered : Prop :=
  (∀ (i : Instr) (tag : Nat) (request : Request) (s : State), requestOf? i = some (tag, request) →
     (s.restarting = true ∨ s.select = .abandoned → exec i s = .next { s with select := .idle }) ∧
     (s.select = .taking → exec i s = exec i { s with select := .idle }) ∧
     (s.takesRequests → ∃ t r, exec i s = .next t ∧ t.response = some r ∧ r.tag = tag ∧ r.overrun = false ∧
       t.ready = true)) ∧
  (∀ (i : Instr) (tag : Nat) (request : Request) (s t : State) (r : Response),
     requestOf? i = some (tag, request) → s.takesRequests → exec i s = .next t → t.response = some r →
     r.status ≠ .ok → r.status ≠ .accepted → t = s.answering r)

/-- RESTART is answered OK and changes nothing else; reading that OK, or the RESET pin, begins the restart with every block's
restart steps (R186): what the two inputs take in is abandoned (R140, R179), the notices are discarded and RESTARTED, DISABLE
LOST and LOST TICK posted (R127, R159, R177), the marks a walk had taken given back and the elements of the Element Table kept
but for UP and the miss counts (R72, R91), the Verify List rebuilt (R91), SENT orders QUEUED in their places with their
follow-ons and every other order kept (R109), the transmitter, the window and an accrual walk abandoned (R127, R140, R159),
and everything else kept (R4, R30, R37, R48). The pin driven active in a restart joins it (R186). That the select period which
reads the OK loses its data in, that RESTARTED stands before the other notices of the restart, and that LOST TICK carries the
walk position as the first slot not visited, are DEDUCED (entries 10, 9 and 25); that RESET_PIN stands for each change of the
pin's level is the model's choice (entry 11), and so are the forms of a first bit and of the assertion of select, by which
State holds what the two inputs take in (entries 12 and 28). -/
def Obligations.RestartBegins : Prop :=
  (∀ (tag : Nat) (s : State), s.takesRequests →
    exec (.restart tag) s = .next (s.answering { okay tag .none with startsRestart := true })) ∧
  (∀ (clocked : Nat) (dataIn : List Byte) (s : State) (r : Response), s.restarting = false → s.select ≠ .abandoned →
    s.response = some r → r.startsRestart = true → r.bytes.length ≤ clocked →
    ∃ t, exec (.selectPeriod (.released clocked) dataIn) s = .next t ∧
      ({ s with select := .idle } : State).restartedBy .request t) ∧
  (∀ s : State, s.restarting = false → s.pinHeld = false →
    ∃ t, exec .resetPin s = .next t ∧ ({ s with pinHeld := true } : State).restartedBy .resetPin t) ∧
  (∀ s : State, s.restarting = true → s.pinHeld = false → exec .resetPin s = .next { s with pinHeld := true }) ∧
  (∀ s : State, s.pinHeld = true → exec .resetPin s = .next { s with pinHeld := false })

/-- The completion of a restart, which waits for the release of the RESET pin, whose level RESET_PIN gives (R186, entry 11): a
round begins with the period then set, a re-derive walk begins, a kept period walk goes on, a pending period walk or tick
begins otherwise, and with the System Code set the arbiter makes its first choice (R72, R91, R127, R159, R186). -/
def Obligations.RestartCompletes : Prop :=
  (∀ s : State, s.pinHeld = true → exec .restartComplete s = .next s) ∧
  ∀ s : State, s.restarting = true → s.pinHeld = false → s.plant.walk = .idle → s.plant.queue = [] →
    s.plant.rederive = true →
    ∃ t, exec .restartComplete s = .next t ∧ t.restarting = false ∧ t.response = s.response ∧ t.clock = s.clock ∧
      t.subs = s.subs ∧ t.up = s.up ∧
      t.plant = { s.plant with rederive := false, walk := .rederive 0 [] } ∧
      t.poll.expired = false ∧ t.poll.periodInForce = s.poll.roundPeriod ∧
      (s.systemCode = none → t.poll.position = 1 ∧ t.down = s.down) ∧
      (s.systemCode.isSome = true → t.down.transmission.isSome = true) ∧
      (∀ p c n m, s.accrual.walk = .period p c n m → t.accrual = s.accrual) ∧
      (s.accrual.walk = .none → ∀ days, s.accrual.pendingPeriod = some days →
        t.accrual.walk = .period s.accrual.threshold s.accrual.length.isSome 0 0 ∧ t.accrual.length = some days) ∧
      (s.accrual.walk = .none → s.accrual.pendingPeriod = none → ∀ tick, s.accrual.pendingTick = some tick →
        t.accrual = { s.accrual with pendingTick := none, walk := .accrual tick, position := 0 }) ∧
      t = { s with restarting := false, plant := t.plant, poll := t.poll, down := t.down, orders := t.orders
                   accrual := t.accrual, lineUp := { s.lineUp with tiers := t.lineUp.tiers } }

-- reads

/-- READ TIER returns a copy of the entry; an undefined tier is answered OK with defined "no" and all fields 0, a tier above
31 with RANGE; no state changes (R35). -/
def Obligations.ReadTier : Prop :=
  ∀ (tag tier : Nat) (s : State), s.takesRequests →
    (31 < tier → exec (.readTier tag tier) s = .next (s.answering (refused tag .range))) ∧
    (tier ≤ 31 → exec (.readTier tag tier) s = .next (s.answering (okay tag (.tier (s.lineUp.tiers.get? tier)))) ∧
      (s.lineUp.tiers.get? tier = none → (Values.tier (s.lineUp.tiers.get? tier)).bytes = List.replicate 15 0))

/-- READ OFFER returns every field of the slot's offer; an empty slot gives VACANT, a slot above 15 RANGE; no state changes
(R53). -/
def Obligations.ReadOffer : Prop :=
  ∀ (tag slot : Nat) (s : State), s.takesRequests →
    (15 < slot → exec (.readOffer tag slot) s = .next (s.answering (refused tag .range))) ∧
    (slot ≤ 15 → s.lineUp.offers.get? slot = none →
      exec (.readOffer tag slot) s = .next (s.answering (refused tag .vacant))) ∧
    (∀ o, slot ≤ 15 → s.lineUp.offers.get? slot = some o →
      exec (.readOffer tag slot) s = .next (s.answering (okay tag (.offer o))))

/-- FIND SUBSCRIBER by each key, and READ SUBSCRIBER: what they answer, and that they change no state (R28, R29). -/
def Obligations.SubscriberReads : Prop :=
  ∀ (tag : Nat) (s : State), s.takesRequests →
    (∀ account n r, 1 ≤ account → account ≤ 99999999 → s.subs.accounts.get? account = some n → s.slot? n = some r →
      exec (.findSubscriber tag 0 account) s = .next (s.answering (okay tag (.found n r.state)))) ∧
    (∀ first address n r, 1 ≤ address → address ≤ 16777215 → s.subs.converters.get? address = some n →
      s.slot? n = some r →
      exec (.findSubscriber tag 1 (first * 16777216 + address)) s = .next (s.answering (okay tag (.found n r.state)))) ∧
    (∀ tap third port p n r, 1 ≤ tap → tap ≤ 1023 → third < 256 → port ≤ 7 → s.port? tap port = some p →
      p.link = some n → s.slot? n = some r →
      exec (.findSubscriber tag 2 (tap * 65536 + third * 256 + port)) s =
        .next (s.answering (okay tag (.found n r.state)))) ∧
    (∀ account, 1 ≤ account → account ≤ 99999999 → s.subs.accounts.get? account = none →
      exec (.findSubscriber tag 0 account) s = .next (s.answering (refused tag .vacant))) ∧
    (∀ kind value, 2 < kind → exec (.findSubscriber tag kind value) s = .next (s.answering (refused tag .range))) ∧
    (∀ slot r, slot ≤ 4095 → s.slot? slot = some r → r.port = none →
      exec (.readSubscriber tag slot) s = .next (s.answering (okay tag (.subscriber r none)))) ∧
    (∀ slot r p record, slot ≤ 4095 → s.slot? slot = some r → r.port = some p → s.port? p.tap p.port = some record →
      exec (.readSubscriber tag slot) s =
        .next (s.answering (okay tag (.subscriber r (some (record.confirmed, s.plant.dark p.tap))))))

/-- READ CHANNEL, of CURRENT and of NEXT while EDITING or SCHEDULED, FIND ELEMENT, READ ELEMENT, READ POLLING, READ ORDER,
READ DOWNSTREAM, READ ACCRUAL and READ STATUS: what they answer, and that they change no state (R47, R57, R62, R75, R107,
R126, R157, R187), a generation byte that names none being RANGE (R191); READ COUNTERS, which clears what it returns (R123,
R134). That READ DOWNSTREAM shows the generation of a MAP frame as CURRENT or NEXT is the model's choice (entry 31). -/
def Obligations.BlockReads : Prop :=
  (∀ (tag : Nat) (s : State), s.takesRequests →
     (∀ number n c, number ≤ 999 → s.lineUp.current.channels.find? (fun k _ => decide (number ≤ k)) = some (n, c) →
       exec (.readChannel tag 0 number) s = .next (s.answering (okay tag
         (.channel n c s.lineUp.current.number s.lineUp.current.channels.size none)))) ∧
     (∀ number g m n c, number ≤ 999 → s.lineUp.editor = .scheduled g m →
       g.channels.find? (fun k _ => decide (number ≤ k)) = some (n, c) →
       exec (.readChannel tag 1 number) s = .next (s.answering (okay tag (.channel n c g.number g.channels.size (some m))))) ∧
     (∀ number g n c, number ≤ 999 → s.lineUp.editor = .editing g →
       g.channels.find? (fun k _ => decide (number ≤ k)) = some (n, c) →
       exec (.readChannel tag 1 number) s = .next (s.answering (okay tag (.channel n c g.number g.channels.size none)))) ∧
     (∀ number, number ≤ 999 → s.lineUp.editor = .idle →
       exec (.readChannel tag 1 number) s = .next (s.answering (refused tag .state))) ∧
     (∀ number, number ≤ 999 → s.lineUp.current.channels.find? (fun k _ => decide (number ≤ k)) = none →
       exec (.readChannel tag 0 number) s = .next (s.answering (refused tag .vacant))) ∧
     (∀ number g, number ≤ 999 → s.lineUp.editor.next? = some g →
       g.channels.find? (fun k _ => decide (number ≤ k)) = none →
       exec (.readChannel tag 1 number) s = .next (s.answering (refused tag .vacant))) ∧
     (∀ generation number, 1 < generation ∨ 999 < number →
       exec (.readChannel tag generation number) s = .next (s.answering (refused tag .range))) ∧
     (∀ group member i e, group ≤ 62 → member ≤ 254 →
       s.plant.elements.find? (fun _ x => x.group == group && x.member == member) = some (i, e) →
       exec (.findElement tag group member) s = .next (s.answering (okay tag (.elementAt i e.role.kind)))) ∧
     (exec (.readElement tag 0) s = .next (s.answering (okay tag (.root s.plant.rootFirst)))) ∧
     (∀ index e, 1 ≤ index → index ≤ 1023 → s.element? index = some e →
       exec (.readElement tag index) s = .next (s.answering (okay tag (.elementCopy e)))) ∧
     (exec (.readPolling tag) s = .next (s.answering (okay tag (.polling
       { timeout := s.poll.timeout, missLimit := s.poll.missLimit, roundPeriod := s.poll.roundPeriod
         position := s.poll.position, periodInForce := s.poll.periodInForce, expired := s.poll.expired
         due := s.pollDue, verifyCount := s.poll.verify.length, verifyHead := s.poll.verify.head?
         flight := s.poll.flight })))) ∧
     (∀ position o e, position ≤ 63 → s.orders.queue[position]? = some o → s.element? o.tap = some e →
       exec (.readOrder tag position) s = .next (s.answering (okay tag (.order
         { order := o, group := e.group, member := e.member, count := s.orders.queue.length
           sent := if o.state = .sent then s.orders.flight.map (fun f => (f.holds, f.opened)) else none })))) ∧
     (∀ position, position ≤ 63 → s.orders.queue.length ≤ position →
       exec (.readOrder tag position) s = .next (s.answering (refused tag .vacant))) ∧
     (exec (.readDownstream tag) s = .next (s.answering (okay tag (.downstream
       { silent := s.systemCode.isNone
         frame := s.down.transmission.map (fun tr => (tr.stream,
           match tr.frame with
           | .auth slot _ _ _ _ _ => .auth slot
           | .disable address => .disable address
           | .decline slot _ event _ => .decline slot event
           | .mapCurrent _ number _ => .map .current number
           | .mapNext _ number _ _ => .map .next number
           | .time _ _ _ => .time
           | .poll element _ _ => .poll element
           | .order tap _ _ _ => .order tap))
         windowFree := s.poll.flight.isNone && s.orders.flight.isNone
         orderRun := s.down.orderRun, mapGap := s.down.mapGap, cursor := s.down.cursor, passes := s.down.passes
         phase := s.down.phase, lastChannel := s.down.lastChannel, expedite := s.down.expedite })))) ∧
     (exec (.readAccrual tag) s = .next (s.answering (okay tag (.accrual
       { length := s.accrual.length, sequence := s.accrual.sequence, threshold := s.accrual.threshold
         staged := s.accrual.staged
         previous := (match s.accrual.walk with | .period previous _ _ _ => some previous | _ => none)
         walk := (match s.accrual.walk with | .none => .none | .accrual _ => .accrual | .period _ _ _ _ => .period)
         position := s.accrual.position
         tick := (match s.accrual.walk with | .accrual tick => some tick | _ => none)
         pendingPeriod := s.accrual.pendingPeriod
         closing := (match s.accrual.walk with | .period _ closing _ _ => closing | _ => false)
         pendingTick := s.accrual.pendingTick })))) ∧
     (exec (.readStatus tag) s = .next (s.answering (okay tag (.status
       { minute := s.clock.minute, seconds := s.clock.seconds, clockSet := s.clock.isSet, lastTick := s.clock.lastTick
         systemCode := s.systemCode, periodOpen := s.accrual.length.isSome, sequence := s.accrual.sequence
         walk := (match s.accrual.walk with | .none => .none | .accrual _ => .accrual | .period _ _ _ _ => .period)
         periodPending := s.accrual.pendingPeriod.isSome, tickPending := s.accrual.pendingTick.isSome
         editor := (match s.lineUp.editor with
                    | .idle => .idle | .editing _ => .editing | .scheduled _ _ => .scheduled)
         current := s.lineUp.current.number
         next := (match s.lineUp.editor with
                  | .idle => none | .editing g => some g.number | .scheduled g _ => some g.number)
         switchover := (match s.lineUp.editor with | .scheduled _ m => some m | _ => none)
         plantWalk := decide (s.plant.walk ≠ .idle), rederive := s.plant.rederive
         subscribers := s.subs.slots.entries.length, orders := s.orders.queue.length
         notices := s.notices.held.length, lost := s.notices.lost, alarm := s.alarm, level := s.notices.level }))))) ∧
  (∀ (tag : Nat) (s : State), s.takesRequests →
     exec (.readCounters tag) s = .next { s with
       response := some (okay tag (.counters s.up.counters s.down.drops s.up.window s.up.late))
       up := { s.up with counters := { badCheck := 0, wrongSystem := 0, malformed := 0, late := 0, unmatched := 0
                                       unknownConverter := 0 } }
       down := { s.down with drops := 0 } })

-- the clock and the identity

/-- SET SYSTEM CODE sets the code once, and the transmitter makes its first choice (R110, R185); no command but a power-on
reset changes a code that is set. That LOCKED comes before the check of the operand is DEDUCED (entry 8). -/
def Obligations.SystemCodeSetOnce : Prop :=
  (∀ (tag code : Nat) (s : State), s.takesRequests → s.systemCode = none → 1 ≤ code → code ≤ 65535 →
    ∃ t, exec (.setSystemCode tag code) s = .next t ∧ t.systemCode = some code ∧
      t.response = some (okay tag (.systemCode code)) ∧ t.down.transmission.isSome = true ∧
      t = { s with response := t.response, systemCode := t.systemCode, down := t.down, poll := t.poll,
                   orders := t.orders }) ∧
  (∀ (tag code k : Nat) (s : State), s.takesRequests → s.systemCode = some k →
    exec (.setSystemCode tag code) s = .next (s.answering (refused tag .locked))) ∧
  (∀ (c : Instr) (s t : State) (k : Nat), (∀ straps, c ≠ .powerOnReset straps) → s.systemCode = some k →
    exec c s = .next t → t.systemCode = some k)

/-- SET TIME: the clock after it, set from an unset one or trimmed by at most 2 minutes, with the last tick minute that R183
leaves, what the readers take from the number offered, the last tick minute of a clock just set being the greatest below it
(R45, R52, R182, R183, R184), and the refusal of a larger trim. That LOST TICK is posted after SWITCHOVER DONE is DEDUCED
(entry 7). -/
def Obligations.SetTime : Prop :=
  ∀ (tag minute : Nat) (s : State), s.takesRequests → minute ≤ 4294967295 →
    (s.clock.isSet = false → ∃ t, exec (.setTime tag minute) s = .next t ∧
      t.clock = { minute := minute, seconds := 0, isSet := true, lastTick := some (minute / 15 * 15) } ∧
      t.response = some (okay tag (.time minute true)) ∧
      (s.lineUp.offers.wf = true → ({ s with clock := { s.clock with
         isSet := true, lastTick := if minute = 0 then none else some ((minute - 1) / 15 * 15) } } : State).minuteTaken t
           minute) ∧
      t = { s with response := t.response, clock := t.clock, lineUp := t.lineUp, down := t.down, notices := t.notices
                   accrual := t.accrual }) ∧
    (s.clock.isSet = true → minute ≤ s.clock.minute + 2 → s.clock.minute ≤ minute + 2 → minute ≠ s.clock.minute →
      ∃ t, exec (.setTime tag minute) s = .next t ∧ t.clock.minute = minute ∧ t.clock.seconds = 0 ∧
        t.clock.isSet = true ∧
        (∀ l, s.clock.lastTick = some l → t.clock.lastTick = some (max l (minute / 15 * 15))) ∧
        t.response = some (okay tag (.time minute true)) ∧
        (s.lineUp.offers.wf = true → s.minuteTaken t minute) ∧
        t = { s with response := t.response, clock := t.clock, lineUp := t.lineUp, down := t.down, notices := t.notices
                     accrual := t.accrual }) ∧
    (s.clock.isSet = true → minute = s.clock.minute →
      exec (.setTime tag minute) s =
        .next { s with response := some (okay tag (.time minute true)), clock := { s.clock with seconds := 0 } }) ∧
    (s.clock.isSet = true → minute > s.clock.minute + 2 ∨ s.clock.minute > minute + 2 →
      exec (.setTime tag minute) s = .next (s.answering (refused tag .range)))

/-- A second passes; the sixtieth is the minute event; and the minute event is what the seconds still to go would do, one
after the other (R182). That a minute event may come as one command is the model's choice (entry 3). -/
def Obligations.ClockRuns : Prop :=
  (∀ s : State, s.clock.seconds < 59 →
    exec .secondTick s = .next { s with clock := { s.clock with seconds := s.clock.seconds + 1 } }) ∧
  (∀ s : State, s.clock.seconds = 59 → exec .secondTick s = exec .minuteEvent s) ∧
  (∀ s : State, s.clock.seconds ≤ 59 → ∃ t, exec .minuteEvent s = .next t ∧
    runAll (List.replicate (60 - s.clock.seconds) .secondTick) s = some t ∧ t.clock.seconds = 0 ∧
    t.clock.isSet = s.clock.isSet ∧
    (s.clock.minute < 4294967295 → t.clock.minute = s.clock.minute + 1) ∧
    (s.clock.minute = 4294967295 → t = { s with clock := { s.clock with seconds := 0 } }))

/-- What the readers of the minute number take at a minute event: outside a restart the switchover at or past its minute, the
air ends, and the accrual tick; in a restart only the tick (R45, R46, R48, R52, R145, R159, R183). A tick minute above the
last one produces a tick, and at any other minute the accrual is unchanged; the tick begins its walk, becomes the pending
tick, or is lost with LOST TICK (R145). That LOST TICK is posted after the SWITCHOVER DONE of the same minute is DEDUCED
(entry 7). -/
def Obligations.MinuteReaders : Prop :=
  ∀ s : State, s.clock.minute < 4294967295 →
    let now := s.clock.minute + 1
    let tick := now / 15 * 15
    let ticks : Prop := s.clock.isSet = true ∧ ∀ l, s.clock.lastTick = some l → l < tick
    (s.restarting = false → s.lineUp.offers.wf = true →
      ∃ t, exec .minuteEvent s = .next t ∧
        t = { s with clock := t.clock, lineUp := t.lineUp, down := t.down, notices := t.notices, accrual := t.accrual } ∧
        t.clock = { s.clock with minute := now, seconds := 0, lastTick := t.clock.lastTick } ∧ s.minuteTaken t now) ∧
    (s.restarting = true →
      ∃ t, exec .minuteEvent s = .next t ∧
        t = { s with clock := t.clock, notices := t.notices, accrual := t.accrual } ∧
        t.clock = { s.clock with minute := now, seconds := 0, lastTick := t.clock.lastTick } ∧
        (ticks → t.clock.lastTick = some tick ∧
          (s.accrual.length = none → t.accrual = s.accrual ∧ t.notices = s.notices) ∧
          (s.accrual.length.isSome = true → s.accrual.pendingTick = none →
            t.accrual = { s.accrual with pendingTick := some tick } ∧ t.notices = s.notices) ∧
          (s.accrual.length.isSome = true → s.accrual.pendingTick.isSome = true →
            t.accrual = s.accrual ∧ t.notices = s.notices.post now (.lostTick tick none) .none)) ∧
        (¬ ticks → t.accrual = s.accrual ∧ t.clock.lastTick = s.clock.lastTick ∧ t.notices = s.notices))

-- the Subscriber Table

/-- ADD SUBSCRIBER puts a PREPARED record into the lowest VACANT slot and its account into the index, and changes nothing else
(R4, R5, R13); an account in the index gives EXISTS, a table with no VACANT slot FULL. -/
def Obligations.AddSubscriber : Prop :=
  ∀ (tag account ceiling : Nat) (s : State), s.takesRequests → 1 ≤ account → account ≤ 99999999 → ceiling ≤ 65535 →
    (∀ slot, slot < 4096 → s.slot? slot = none → (∀ n, n < slot → (s.slot? n).isSome = true) →
      s.subs.accounts.get? account = none →
      ∃ t, exec (.addSubscriber tag account ceiling) s = .next t ∧ t.response = some (okay tag (.slot slot)) ∧
        t.slot? slot = some
          { state := .prepared, account := account, converter := none, port := none, tiers := 0, ceiling := ceiling
            purchases := [], purchaseTotal := 0, purchaseCount := 0, periodTag := s.accrual.sequence, weight := 0
            accumulator := 0, saturated := false, held := 0, spell := 0, charged := 0, credited := 0
            statement := none } ∧
        (∀ n, n ≠ slot → t.slot? n = s.slot? n) ∧
        t.subs.accounts.get? account = some slot ∧
        (∀ a, a ≠ account → t.subs.accounts.get? a = s.subs.accounts.get? a) ∧
        t = { s with response := t.response, subs := { t.subs with converters := s.subs.converters } }) ∧
    ((s.subs.accounts.get? account).isSome = true →
      exec (.addSubscriber tag account ceiling) s = .next (s.answering (refused tag .exists))) ∧
    (s.subs.accounts.get? account = none → (∀ n, n < 4096 → (s.slot? n).isSome = true) →
      exec (.addSubscriber tag account ceiling) s = .next (s.answering (refused tag .full)))

/-- ASSIGN CONVERTER gives a record an address, changes it or takes it away, in the record and in the Converter Index
together; a departing address is offered a DISABLE, and a record with an address after the change is reported (R6, R9, R14,
R15). What an offer and a report do is stated of the write barrier. -/
def Obligations.AssignConverter : Prop :=
  ∀ (tag slot address : Nat) (s : State) (r : Subscriber), s.takesRequests → slot ≤ 4095 → address ≤ 16777215 →
    s.slot? slot = some r →
    (∀ old, r.converter = some old → address ≠ old → s.subs.converters.get? address = none →
      ∃ t, exec (.assignConverter tag slot address) s = .next t ∧ t.response = some (okay tag .none) ∧
        t.slot? slot = some { r with converter := if address = 0 then none else some address } ∧
        (∀ n, n ≠ slot → t.slot? n = s.slot? n) ∧
        t.subs.converters.get? old = none ∧
        (address ≠ 0 → t.subs.converters.get? address = some slot) ∧
        (∀ a, a ≠ old → a ≠ address → t.subs.converters.get? a = s.subs.converters.get? a) ∧
        (address = 0 → t.down = (s.offer (.disable old)).down) ∧
        (address ≠ 0 → t.down = ((s.offer (.disable old)).report slot).down) ∧
        t.notices = (s.offer (.disable old)).notices ∧
        t = { s with response := t.response, subs := { t.subs with accounts := s.subs.accounts }, down := t.down,
                     notices := t.notices }) ∧
    (r.converter = none → address ≠ 0 → s.subs.converters.get? address = none →
      ∃ t, exec (.assignConverter tag slot address) s = .next t ∧ t.response = some (okay tag .none) ∧
        t.slot? slot = some { r with converter := some address } ∧
        (∀ n, n ≠ slot → t.slot? n = s.slot? n) ∧
        t.subs.converters.get? address = some slot ∧
        (∀ a, a ≠ address → t.subs.converters.get? a = s.subs.converters.get? a) ∧
        t.down = (s.report slot).down ∧
        t = { s with response := t.response, subs := { t.subs with accounts := s.subs.accounts }, down := t.down }) ∧
    (r.converter = (if address = 0 then none else some address) →
      exec (.assignConverter tag slot address) s = .next (s.answering (okay tag .none))) ∧
    (∀ other, address ≠ 0 → r.converter ≠ some address → s.subs.converters.get? address = some other → other ≠ slot →
      exec (.assignConverter tag slot address) s = .next (s.answering (refused tag .exists)))

/-- ASSIGN PORT sets both sides of the link, with the operand none clears both, and to another port moves the link; a port
that is confirmed FULL or LIMITED is not released, and a released port's order loses the slot as its origin (R7, R16, R17). -/
def Obligations.AssignPort : Prop :=
  ∀ (tag slot : Nat) (s : State) (r : Subscriber), s.takesRequests → slot ≤ 4095 → s.slot? slot = some r →
    (∀ tap port record, r.state = .prepared ∨ r.state = .disconnected → r.port = none → 1 ≤ tap → tap ≤ 1023 →
      port ≤ 7 → s.port? tap port = some record → record.link = none →
      ∃ t, exec (.assignPort tag slot tap port) s = .next t ∧ t.response = some (okay tag .none) ∧
        t.slot? slot = some { r with port := some { tap := tap, port := port } } ∧
        (∀ n, n ≠ slot → t.slot? n = s.slot? n) ∧
        t.port? tap port = some { record with link := some slot } ∧
        (∀ a b, (a, b) ≠ (tap, port) → t.port? a b = s.port? a b) ∧
        t = { s with response := t.response, subs := { s.subs with slots := t.subs.slots }
                     plant := { s.plant with elements := t.plant.elements } }) ∧
    (∀ any p record, r.state = .prepared ∨ r.state = .disconnected → r.port = some p →
      s.port? p.tap p.port = some record → record.confirmed ≠ .full → record.confirmed ≠ .limited →
      ∃ t, exec (.assignPort tag slot 0 any) s = .next t ∧ t.response = some (okay tag .none) ∧
        t.slot? slot = some { r with port := none } ∧
        (∀ n, n ≠ slot → t.slot? n = s.slot? n) ∧
        t.port? p.tap p.port = some { record with link := none } ∧
        (∀ a b, (a, b) ≠ (p.tap, p.port) → t.port? a b = s.port? a b) ∧
        t.orders.queue = s.orders.queue.map (fun o =>
          if o.tap = p.tap ∧ o.port = p.port ∧ o.origin = some slot then { o with origin := none } else o) ∧
        t = { s with response := t.response, subs := { s.subs with slots := t.subs.slots }
                     plant := { s.plant with elements := t.plant.elements }
                     orders := { s.orders with queue := t.orders.queue } }) ∧
    (∀ any p record, r.state = .prepared ∨ r.state = .disconnected → r.port = some p →
      s.port? p.tap p.port = some record → record.confirmed = .full ∨ record.confirmed = .limited →
      exec (.assignPort tag slot 0 any) s = .next (s.answering (refusedFor tag .state .port .none))) ∧
    (∀ any, r.state = .prepared ∨ r.state = .disconnected → r.port = none →
      exec (.assignPort tag slot 0 any) s = .next (s.answering (okay tag .none))) ∧
    (∀ tap port, 1 ≤ tap → tap ≤ 1023 → port ≤ 7 → r.state = .active ∨ r.state = .suspended →
      exec (.assignPort tag slot tap port) s = .next (s.answering (refused tag .state))) ∧
    (∀ tap port p old record, r.state = .prepared ∨ r.state = .disconnected → r.port = some p → 1 ≤ tap → tap ≤ 1023 →
      port ≤ 7 → p ≠ { tap := tap, port := port } → s.port? tap port = some record → record.link = none →
      s.port? p.tap p.port = some old →
      (old.confirmed ≠ .full → old.confirmed ≠ .limited →
        ∃ t, exec (.assignPort tag slot tap port) s = .next t ∧ t.response = some (okay tag .none) ∧
          t.slot? slot = some { r with port := some { tap := tap, port := port } } ∧
          (∀ n, n ≠ slot → t.slot? n = s.slot? n) ∧
          t.port? tap port = some { record with link := some slot } ∧
          t.port? p.tap p.port = some { old with link := none } ∧
          (∀ a b, (a, b) ≠ (tap, port) → (a, b) ≠ (p.tap, p.port) → t.port? a b = s.port? a b) ∧
          t.orders.queue = s.orders.queue.map (fun o =>
            if o.tap = p.tap ∧ o.port = p.port ∧ o.origin = some slot then { o with origin := none } else o) ∧
          t = { s with response := t.response, subs := { s.subs with slots := t.subs.slots }
                       plant := { s.plant with elements := t.plant.elements }
                       orders := { s.orders with queue := t.orders.queue } }) ∧
      (old.confirmed = .full ∨ old.confirmed = .limited →
        exec (.assignPort tag slot tap port) s = .next (s.answering (refusedFor tag .state .port .none)))) ∧
    (∀ tap port record, r.state = .prepared ∨ r.state = .disconnected → 1 ≤ tap → tap ≤ 1023 → port ≤ 7 →
      s.port? tap port = some record →
      (r.port = some { tap := tap, port := port } → record.link = some slot →
        exec (.assignPort tag slot tap port) s = .next (s.answering (okay tag .none))) ∧
      (∀ other, record.link = some other → other ≠ slot →
        exec (.assignPort tag slot tap port) s = .next (s.answering (refused tag .exists))))

/-- GRANT TIERS and REVOKE TIERS: the record's tiers, the holder counts of the tiers added or removed, and the weight by the
per-tick rates of the period the record's tag names; a record with a converter is reported (R9, R18, R19, R20). -/
def Obligations.TiersOfARecord : Prop :=
  ∀ (tag slot : Nat) (m : TierSet) (s : State) (r : Subscriber), s.takesRequests → slot ≤ 4095 →
    s.slot? slot = some r →
    ((∀ n, n < 32 → hasTier m n = true → (s.lineUp.tiers.get? n).isSome = true) → m &&& ~~~ r.tiers ≠ 0 →
      ∃ t, exec (.grantTiers tag slot m) s = .next t ∧ t.response = some (okay tag (.tiers (r.tiers ||| m))) ∧
        t.slot? slot = some { r with tiers := r.tiers ||| m, weight := s.weightFor r.periodTag (r.tiers ||| m) } ∧
        (∀ n, n ≠ slot → t.slot? n = s.slot? n) ∧
        (∀ n e, s.lineUp.tiers.get? n = some e → t.lineUp.tiers.get? n =
          some (if hasTier m n = true ∧ hasTier r.tiers n = false then { e with holders := min 4096 (e.holders + 1) }
                else e)) ∧
        (r.converter.isSome = true → t.down = (s.report slot).down) ∧ (r.converter = none → t.down = s.down) ∧
        t = { s with response := t.response, subs := { s.subs with slots := t.subs.slots }
                     lineUp := { s.lineUp with tiers := t.lineUp.tiers }, down := t.down }) ∧
    ((∃ n, n < 32 ∧ hasTier m n = true ∧ s.lineUp.tiers.get? n = none) →
      exec (.grantTiers tag slot m) s = .next (s.answering (refusedFor tag .invalid .tier .none))) ∧
    (m &&& r.tiers ≠ 0 →
      ∃ t, exec (.revokeTiers tag slot m) s = .next t ∧ t.response = some (okay tag (.tiers (r.tiers &&& ~~~ m))) ∧
        t.slot? slot = some { r with tiers := r.tiers &&& ~~~ m, weight := s.weightFor r.periodTag (r.tiers &&& ~~~ m) } ∧
        (∀ n, n ≠ slot → t.slot? n = s.slot? n) ∧
        (∀ n e, s.lineUp.tiers.get? n = some e → t.lineUp.tiers.get? n =
          some (if hasTier m n = true ∧ hasTier r.tiers n = true then { e with holders := e.holders - 1 } else e)) ∧
        (r.converter.isSome = true → t.down = (s.report slot).down) ∧ (r.converter = none → t.down = s.down) ∧
        t = { s with response := t.response, subs := { s.subs with slots := t.subs.slots }
                     lineUp := { s.lineUp with tiers := t.lineUp.tiers }, down := t.down }) ∧
    (m &&& r.tiers = 0 →
      exec (.revokeTiers tag slot m) s = .next (s.answering (okay tag (.tiers r.tiers))))

/-- SET CEILING and TAKE STATEMENT change one field of one record and nothing else (R21, R167). -/
def Obligations.CeilingAndStatement : Prop :=
  ∀ (tag slot : Nat) (s : State) (r : Subscriber), s.takesRequests → slot ≤ 4095 → s.slot? slot = some r →
    (∀ ceiling, ceiling ≤ 65535 → ∃ t, exec (.setCeiling tag slot ceiling) s = .next t ∧
      t.response = some (okay tag .none) ∧ t.slot? slot = some { r with ceiling := ceiling } ∧
      (∀ n, n ≠ slot → t.slot? n = s.slot? n) ∧
      t = { s with response := t.response, subs := { s.subs with slots := t.subs.slots } }) ∧
    (∀ st, r.statement = some st → ∃ t, exec (.takeStatement tag slot) s = .next t ∧
      t.response = some (okay tag (.statement st r.account)) ∧ t.slot? slot = some { r with statement := none } ∧
      (∀ n, n ≠ slot → t.slot? n = s.slot? n) ∧
      t = { s with response := t.response, subs := { s.subs with slots := t.subs.slots } }) ∧
    (r.statement = none → exec (.takeStatement tag slot) s = .next (s.answering (refused tag .state)))

/-- CONNECT, SUSPEND, RESUME and DISCONNECT: from the states R8 allows, with a port and room for the order, the new state and
the order for the setting it demands, together, and the report of a record with a converter; without room FULL, without a port
STATE PORT, from another state, as RETIRE from ACTIVE or SUSPENDED, STATE (R8, R9, R10, R22, R23, R24, R94). -/
def Obligations.ServiceChange : Prop :=
  (∀ (c : Instr) (tag slot : Nat) (from_ to_ : ServiceState) (s : State) (r : Subscriber),
     (c = .connect tag slot ∧ (from_ = .prepared ∨ from_ = .disconnected) ∧ to_ = .active) ∨
     (c = .suspend tag slot ∧ from_ = .active ∧ to_ = .suspended) ∨
     (c = .resume tag slot ∧ from_ = .suspended ∧ to_ = .active) ∨
     (c = .disconnect tag slot ∧ (from_ = .active ∨ from_ = .suspended) ∧ to_ = .disconnected) →
     s.takesRequests → slot ≤ 4095 → s.slot? slot = some r → r.state = from_ →
     (∀ p, r.port = some p → s.canPlace p.tap p.port →
       ∃ t, exec c s = .next t ∧ t.response = some (okay tag .none) ∧
         t.slot? slot = some { r with state := to_ } ∧
         (∀ n, n ≠ slot → t.slot? n = s.slot? n) ∧
         t.order? p.tap p.port = some (s.placedOrder p.tap p.port to_.demands (some slot)) ∧
         (∀ a b, (a, b) ≠ (p.tap, p.port) → t.order? a b = s.order? a b) ∧
         t.orders.queue.length =
           (if (s.order? p.tap p.port).isSome then s.orders.queue.length else s.orders.queue.length + 1) ∧
         t.orders.queue = s.queuePlaced p.tap p.port to_.demands (some slot) ∧
         (r.converter.isSome = true → t.down = (s.report slot).down) ∧ (r.converter = none → t.down = s.down) ∧
         t = { s with response := t.response, subs := { s.subs with slots := t.subs.slots }
                      orders := { s.orders with queue := t.orders.queue }, down := t.down }) ∧
     (∀ p, r.port = some p → ¬ s.canPlace p.tap p.port → exec c s = .next (s.answering (refused tag .full))) ∧
     (r.port = none → exec c s = .next (s.answering (refusedFor tag .state .port .none)))) ∧
  (∀ (c : Instr) (tag slot : Nat) (s : State) (r : Subscriber), s.takesRequests → slot ≤ 4095 → s.slot? slot = some r →
     (c = .connect tag slot ∧ (r.state = .active ∨ r.state = .suspended)) ∨
     (c = .suspend tag slot ∧ r.state ≠ .active) ∨
     (c = .resume tag slot ∧ r.state ≠ .suspended) ∨
     (c = .disconnect tag slot ∧ (r.state = .prepared ∨ r.state = .disconnected)) ∨
     (c = .retire tag slot ∧ (r.state = .active ∨ r.state = .suspended)) →
     exec c s = .next (s.answering (refused tag .state)))

/-- REISSUE and CLEAR PORT place an order, in the place of the port's order or at the tail, and change nothing else: REISSUE
for the setting the record's state demands, with its slot as origin, CLEAR PORT for OFF with no origin, answered with the
order's state and position (R25, R94, R106). -/
def Obligations.OrdersPlaced : Prop :=
  ∀ (tag : Nat) (s : State), s.takesRequests →
    (∀ slot r p, slot ≤ 4095 → s.slot? slot = some r → r.port = some p → s.canPlace p.tap p.port →
      ∃ t, exec (.reissue tag slot) s = .next t ∧ t.response = some (okay tag .none) ∧
        t.order? p.tap p.port = some (s.placedOrder p.tap p.port r.state.demands (some slot)) ∧
        (∀ a b, (a, b) ≠ (p.tap, p.port) → t.order? a b = s.order? a b) ∧
        t.orders.queue = s.queuePlaced p.tap p.port r.state.demands (some slot) ∧
        t = { s with response := t.response, orders := { s.orders with queue := t.orders.queue } }) ∧
    (∀ tap port record, 1 ≤ tap → tap ≤ 1023 → port ≤ 7 → s.port? tap port = some record → record.link = none →
      s.canPlace tap port →
      ∃ t, exec (.clearPort tag tap port) s = .next t ∧
        t.response = some (okay tag (.orderAt (s.placedOrder tap port .off none).state (t.orderPosition tap port))) ∧
        t.order? tap port = some (s.placedOrder tap port .off none) ∧
        (∀ a b, (a, b) ≠ (tap, port) → t.order? a b = s.order? a b) ∧
        t.orders.queue = s.queuePlaced tap port .off none ∧
        t = { s with response := t.response, orders := { s.orders with queue := t.orders.queue } }) ∧
    (∀ tap port record n, 1 ≤ tap → tap ≤ 1023 → port ≤ 7 → s.port? tap port = some record → record.link = some n →
      exec (.clearPort tag tap port) s = .next (s.answering (refusedFor tag .referenced .port (.slot n)))) ∧
    (∀ tap port record, 1 ≤ tap → tap ≤ 1023 → port ≤ 7 → s.port? tap port = some record → record.link = none →
      ¬ s.canPlace tap port → exec (.clearPort tag tap port) s = .next (s.answering (refused tag .full)))

/-- RETIRE of a record without charges, statement or switched port empties the slot and gives back its account, converter,
tiers and port: the converter's address is offered a DISABLE, and the port's order loses the slot as its origin (R17, R26,
R27). -/
def Obligations.Retire : Prop :=
  ∀ (tag slot : Nat) (s : State) (r : Subscriber), s.takesRequests → slot ≤ 4095 → s.slot? slot = some r →
    r.state = .prepared ∨ r.state = .disconnected →
    (r.accumulator = 0 → r.held = 0 → r.spell = 0 → r.purchaseTotal = 0 → r.statement = none →
      (∀ p, r.port = some p → s.confirmed? p = some .off) →
      ∃ t, exec (.retire tag slot) s = .next t ∧ t.response = some (okay tag .none) ∧ t.slot? slot = none ∧
        (∀ n, n ≠ slot → t.slot? n = s.slot? n) ∧
        t.subs.accounts.get? r.account = none ∧
        (∀ a, a ≠ r.account → t.subs.accounts.get? a = s.subs.accounts.get? a) ∧
        (∀ a, r.converter = some a → t.subs.converters.get? a = none) ∧
        (∀ a, r.converter ≠ some a → t.subs.converters.get? a = s.subs.converters.get? a) ∧
        (∀ n e, s.lineUp.tiers.get? n = some e → t.lineUp.tiers.get? n =
          some (if hasTier r.tiers n = true then { e with holders := e.holders - 1 } else e)) ∧
        (∀ p record, r.port = some p → s.port? p.tap p.port = some record →
          t.port? p.tap p.port = some { record with link := none }) ∧
        (∀ a b, r.port ≠ some { tap := a, port := b } → t.port? a b = s.port? a b) ∧
        t.orders.queue = s.orders.queue.map (fun o =>
          if r.port = some { tap := o.tap, port := o.port } ∧ o.origin = some slot then { o with origin := none } else o) ∧
        (∀ a, r.converter = some a →
          t.down = (s.offer (.disable a)).down ∧ t.notices = (s.offer (.disable a)).notices) ∧
        (r.converter = none → t.down = s.down ∧ t.notices = s.notices) ∧
        t = { s with response := t.response, subs := t.subs, lineUp := { s.lineUp with tiers := t.lineUp.tiers }
                     plant := { s.plant with elements := t.plant.elements }
                     orders := { s.orders with queue := t.orders.queue }, down := t.down, notices := t.notices }) ∧
    (r.accumulator ≠ 0 ∨ r.held ≠ 0 ∨ r.spell ≠ 0 ∨ r.purchaseTotal ≠ 0 →
      exec (.retire tag slot) s = .next (s.answering (refusedFor tag .state .charges .none))) ∧
    (r.accumulator = 0 → r.held = 0 → r.spell = 0 → r.purchaseTotal = 0 →
      (r.statement.isSome = true →
        exec (.retire tag slot) s = .next (s.answering (refusedFor tag .state .statement .none))) ∧
      (r.statement = none → (∃ p, r.port = some p ∧ s.confirmed? p ≠ some .off) →
        exec (.retire tag slot) s = .next (s.answering (refusedFor tag .state .port .none))))

/-- A slot never becomes vacant while its record holds a nonzero service accumulator, held amount, spell count or purchase
total, or an untaken statement, whatever command is taken but a power-on reset (R26); and the accrual fields of a record that
stays change only at the visits of the Accrual Engine's walks (R151). -/
def Obligations.ChargesOnlyAtVisits : Prop :=
  (∀ (c : Instr) (s t : State) (n : Nat) (r : Subscriber), (∀ straps, c ≠ .powerOnReset straps) →
     exec c s = .next t → s.slot? n = some r → t.slot? n = none →
     r.accumulator = 0 ∧ r.held = 0 ∧ r.spell = 0 ∧ r.purchaseTotal = 0 ∧ r.statement = none) ∧
  (∀ (c : Instr) (s t : State) (n : Nat) (r r' : Subscriber), c ≠ .accrualVisit → c ≠ .periodVisit →
     exec c s = .next t → s.slot? n = some r → t.slot? n = some r' →
     r'.accumulator = r.accumulator ∧ r'.held = r.held ∧ r'.spell = r.spell ∧ r'.charged = r.charged ∧
       r'.credited = r.credited ∧ r'.periodTag = r.periodTag)

-- the Tier and Line-up Unit

/-- DEFINE TIER, SET TIER RATE and UNDEFINE TIER on the Tier Table; a new tier's per-tick rates follow the open period, and a
tier still referenced is not undefined, the first reference in the order of R34 being named (R30, R31, R32, R34, R142). -/
def Obligations.TierTable : Prop :=
  ∀ (tag tier : Nat) (s : State), s.takesRequests → tier ≤ 31 →
    (∀ rate, rate ≤ 65535 → s.lineUp.tiers.get? tier = none →
      ∃ t e, exec (.defineTier tag tier rate) s = .next t ∧ t.response = some (okay tag (.tier (some e))) ∧
        e.currentRate = rate ∧ e.nextRate = rate ∧ e.holders = 0 ∧ e.previousQ = e.currentQ ∧
        (∀ days, s.accrual.length = some days → e.currentQ = rate * 16777216 / (96 * days)) ∧
        (s.accrual.length = none → e.currentQ = 0) ∧
        t.lineUp.tiers.get? tier = some e ∧ (∀ n, n ≠ tier → t.lineUp.tiers.get? n = s.lineUp.tiers.get? n) ∧
        t = { s with response := t.response, lineUp := { s.lineUp with tiers := t.lineUp.tiers } }) ∧
    (∀ rate e, rate ≤ 65535 → s.lineUp.tiers.get? tier = some e →
      exec (.defineTier tag tier rate) s = .next (s.answering (refused tag .exists)) ∧
      ∃ t, exec (.setTierRate tag tier rate) s = .next t ∧ t.response = some (okay tag (.rates e.currentRate rate)) ∧
        t.lineUp.tiers.get? tier = some { e with nextRate := rate } ∧
        (∀ n, n ≠ tier → t.lineUp.tiers.get? n = s.lineUp.tiers.get? n) ∧
        t = { s with response := t.response, lineUp := { s.lineUp with tiers := t.lineUp.tiers } }) ∧
    (∀ e, s.lineUp.tiers.get? tier = some e → e.holders = 0 →
      (∀ n c, s.lineUp.current.channels.get? n = some c → c.tier ≠ tier) →
      (∀ g n c, s.lineUp.editor.next? = some g → g.channels.get? n = some c → c.tier ≠ tier) →
      (∀ n o, s.lineUp.offers.get? n = some o → o.tier ≠ tier) → s.canonical →
      ∃ t, exec (.undefineTier tag tier) s = .next t ∧ t.response = some (okay tag .none) ∧
        t.lineUp.tiers.get? tier = none ∧ (∀ n, n ≠ tier → t.lineUp.tiers.get? n = s.lineUp.tiers.get? n) ∧
        t = { s with response := t.response, lineUp := { s.lineUp with tiers := t.lineUp.tiers } }) ∧
    (∀ e, s.lineUp.tiers.get? tier = some e → e.holders ≠ 0 →
      exec (.undefineTier tag tier) s =
        .next (s.answering (refusedFor tag .referenced .holders (.holders e.holders)))) ∧
    (∀ e n c, s.lineUp.tiers.get? tier = some e → e.holders = 0 → s.canonical →
      s.lineUp.current.channels.get? n = some c → c.tier = tier →
      (∀ k d, k < n → s.lineUp.current.channels.get? k = some d → d.tier ≠ tier) →
      exec (.undefineTier tag tier) s =
        .next (s.answering (refusedFor tag .referenced .channel (.channelOf .current n)))) ∧
    (∀ e, s.lineUp.tiers.get? tier = some e → e.holders = 0 → s.canonical →
      (∀ n c, s.lineUp.current.channels.get? n = some c → c.tier ≠ tier) →
      (∀ g n c, s.lineUp.editor.next? = some g → g.channels.get? n = some c → c.tier = tier →
        (∀ k d, k < n → g.channels.get? k = some d → d.tier ≠ tier) →
        exec (.undefineTier tag tier) s =
          .next (s.answering (refusedFor tag .referenced .channel (.channelOf .next n)))) ∧
      ((∀ g n c, s.lineUp.editor.next? = some g → g.channels.get? n = some c → c.tier ≠ tier) →
        ∀ k o, s.lineUp.offers.get? k = some o → o.tier = tier →
          (∀ j x, j < k → s.lineUp.offers.get? j = some x → x.tier ≠ tier) →
          exec (.undefineTier tag tier) s =
            .next (s.answering (refusedFor tag .referenced .offer (.offerSlot k)))))

/-- The editor's moves: BEGIN EDIT copies CURRENT under the next generation number, ABANDON EDIT discards NEXT, PROMOTE of a
NEXT that passes validation schedules it, CANCEL PROMOTE returns it to editing and ends a NEXT pass of the map stream (R37,
R38, R41, R42, R43, R44, R125). -/
def Obligations.EditorMoves : Prop :=
  ∀ (tag : Nat) (s : State), s.takesRequests →
    (s.lineUp.editor = .idle →
      exec (.beginEdit tag) s = .next { s with
        response := some (okay tag (.begun ((s.lineUp.current.number + 1) % 256) s.lineUp.current.channels.size))
        lineUp := { s.lineUp with
          editor := .editing { number := (s.lineUp.current.number + 1) % 256, channels := s.lineUp.current.channels } } } ∧
      exec (.abandonEdit tag) s = .next (s.answering (refused tag .state)) ∧
      exec (.cancelPromote tag) s = .next (s.answering (refused tag .state))) ∧
    (∀ g, s.lineUp.editor = .editing g →
      exec (.abandonEdit tag) s = .next { s with
        response := some (okay tag .none), lineUp := { s.lineUp with editor := .idle } } ∧
      exec (.beginEdit tag) s = .next (s.answering (refused tag .state)) ∧
      exec (.cancelPromote tag) s = .next (s.answering (refused tag .state)) ∧
      (∀ minute, minute ≤ 4294967295 → s.clock.isSet = true → g.channels.entries ≠ [] →
        s.clock.minute + 10 ≤ minute → minute ≤ s.clock.minute + 43200 →
        (∀ n c, (n, c) ∈ g.channels.entries → (s.lineUp.tiers.get? c.tier).isSome = true) →
        g.channels.entries.Pairwise (fun a b => a.2.carrier ≠ b.2.carrier ∨ a.2.program ≠ b.2.program) →
        (∀ k o, (k, o) ∈ s.lineUp.offers.entries → ∃ c, g.channels.get? o.channel = some c ∧ c.kind = .impulse) →
        exec (.promote tag minute) s = .next { s with
          response := some (okay tag (.scheduled g.number minute))
          lineUp := { s.lineUp with editor := .scheduled g minute } }) ∧
      (∀ minute, minute ≤ 4294967295 → s.clock.isSet = true → g.channels.entries ≠ [] →
        minute < s.clock.minute + 10 ∨ s.clock.minute + 43200 < minute →
        exec (.promote tag minute) s =
          .next (s.answering (refusedFor tag .invalid .lead (.present s.clock.minute))))) ∧
    (∀ g m, s.lineUp.editor = .scheduled g m →
      exec (.beginEdit tag) s = .next (s.answering (refused tag .state)) ∧
      exec (.abandonEdit tag) s = .next (s.answering (refused tag .state)) ∧
      ∃ t, exec (.cancelPromote tag) s = .next t ∧ t.response = some (okay tag .none) ∧
        t.lineUp = { s.lineUp with editor := .editing g } ∧
        (s.down.phase = .next → t.down = { s.down with phase := .time, lastChannel := none }) ∧
        (s.down.phase ≠ .next → t.down = s.down) ∧
        t = { s with response := t.response, lineUp := t.lineUp, down := t.down })

/-- PUT CHANNEL and DROP CHANNEL edit NEXT alone: the named channel, and no other (R39, R40). -/
def Obligations.ChannelEdits : Prop :=
  ∀ (tag number : Nat) (s : State) (g : Generation), s.takesRequests → 2 ≤ number → number ≤ 999 →
    s.lineUp.editor = .editing g →
    (∀ carrier program tier kind e, 2 ≤ carrier → carrier ≤ 158 → program ≤ 15 → tier ≤ 31 →
      s.lineUp.tiers.get? tier = some e → (g.channels.get? number).isSome = true ∨ g.channels.size < 120 →
      ∃ t g', exec (.putChannel tag number carrier program (ChannelKind.code kind) tier) s = .next t ∧
        t.response = some (okay tag (.channelCount g'.channels.size)) ∧
        t.lineUp = { s.lineUp with editor := .editing g' } ∧ g'.number = g.number ∧
        g'.channels.get? number = some { carrier := carrier, program := program, kind := kind, tier := tier } ∧
        (∀ n, n ≠ number → g'.channels.get? n = g.channels.get? n) ∧
        t = { s with response := t.response, lineUp := t.lineUp }) ∧
    ((g.channels.get? number).isSome = true →
      ∃ t g', exec (.dropChannel tag number) s = .next t ∧
        t.response = some (okay tag (.channelCount g'.channels.size)) ∧
        t.lineUp = { s.lineUp with editor := .editing g' } ∧ g'.number = g.number ∧
        g'.channels.get? number = none ∧ (∀ n, n ≠ number → g'.channels.get? n = g.channels.get? n) ∧
        t = { s with response := t.response, lineUp := t.lineUp }) ∧
    (g.channels.get? number = none → exec (.dropChannel tag number) s = .next (s.answering (refused tag .vacant))) ∧
    (∀ carrier program tier kind, 2 ≤ carrier → carrier ≤ 158 → program ≤ 15 → tier ≤ 31 →
      s.lineUp.tiers.get? tier = none →
      exec (.putChannel tag number carrier program (ChannelKind.code kind) tier) s =
        .next (s.answering (refusedFor tag .invalid .tier .none))) ∧
    (∀ carrier program tier kind, kind > 2 →
      exec (.putChannel tag number carrier program kind tier) s = .next (s.answering (refused tag .range)))

/-- PUT OFFER of an offer that passes its checks places it in its slot, and WITHDRAW OFFER empties the slot; no other slot and
no purchase list changes (R48, R49, R50, R51). -/
def Obligations.OfferTable : Prop :=
  ∀ (tag slot : Nat) (o : Offer) (s : State), s.takesRequests → slot ≤ 15 →
    (1 ≤ o.event → o.event ≤ 65535 → 2 ≤ o.channel → o.channel ≤ 999 → o.price ≤ 9999 → o.tier ≤ 31 →
      o.opens < o.closes → o.closes ≤ o.airEnd → o.airEnd ≤ 4294967295 →
      (s.clock.isSet = false → exec (.putOffer tag slot o.event o.channel o.price o.tier o.opens o.closes o.airEnd) s =
        .next (s.answering (refused tag .unset))) ∧
      (s.clock.isSet = true → s.clock.minute < o.airEnd →
        (∀ h, s.lineUp.offers.get? slot = some h → h.event = o.event) →
        (∀ k h, (k, h) ∈ s.lineUp.offers.entries → k ≠ slot → h.event ≠ o.event) →
        (∃ c, s.lineUp.current.channels.get? o.channel = some c ∧ c.kind = .impulse) →
        (∀ g m, s.lineUp.editor = .scheduled g m → ∃ c, g.channels.get? o.channel = some c ∧ c.kind = .impulse) →
        (s.lineUp.tiers.get? o.tier).isSome = true →
        ∃ t, exec (.putOffer tag slot o.event o.channel o.price o.tier o.opens o.closes o.airEnd) s = .next t ∧
          t.response = some (okay tag (.offerSlot slot)) ∧ t.lineUp.offers.get? slot = some o ∧
          (∀ n, n ≠ slot → t.lineUp.offers.get? n = s.lineUp.offers.get? n) ∧
          t = { s with response := t.response, lineUp := { s.lineUp with offers := t.lineUp.offers } }) ∧
      (s.clock.isSet = true → o.airEnd ≤ s.clock.minute →
        exec (.putOffer tag slot o.event o.channel o.price o.tier o.opens o.closes o.airEnd) s =
          .next (s.answering (refusedFor tag .invalid .times .none)))) ∧
    (s.lineUp.offers.get? slot = some o →
      ∃ t, exec (.withdrawOffer tag slot) s = .next t ∧ t.response = some (okay tag (.event o.event)) ∧
        t.lineUp.offers.get? slot = none ∧
        (∀ n, n ≠ slot → t.lineUp.offers.get? n = s.lineUp.offers.get? n) ∧
        t = { s with response := t.response, lineUp := { s.lineUp with offers := t.lineUp.offers } }) ∧
    (s.lineUp.offers.get? slot = none →
      exec (.withdrawOffer tag slot) s = .next (s.answering (refused tag .vacant)))

-- the Plant Tree

/-- ADD ELEMENT in an empty entry under the root, a node or an amplifier, with a free address: the new element's fields, its
place at the end of its parent's child list, and the Verify List, with nothing else of the Poll Engine changed (R56, R59, R60,
R77). The parent's list is read over at most 1,024 members (entry 23). -/
def Obligations.AddElement : Prop :=
  ∀ (tag index kind parent group member : Nat) (last : Option Nat) (new : NewElement) (s : State), s.takesRequests →
    1 ≤ index → index ≤ 1023 → parent ≤ 1023 → group ≤ 62 → member ≤ 254 → newElement? kind last = some new →
    s.element? index = none →
    (parent = 0 ∨ ∃ e, s.element? parent = some e ∧ e.role.kind ≠ .tap) →
    ((∀ i e, (i, e) ∈ s.plant.elements.entries → ¬ (e.group = group ∧ e.member = member)) →
      ∃ t e, exec (.addElement tag index kind parent group member last) s = .next t ∧ t.element? index = some e ∧
        t.response = some (okay tag (.added index e.dark (e.role.poll?.map (fun p => p.state)))) ∧
        e.parent = parent ∧ e.group = group ∧ e.member = member ∧ e.firstChild = none ∧ e.nextSibling = none ∧
        e.dark = s.plant.dark parent ∧ e.shadow = s.plant.dark parent ∧ e.mark = .none ∧ e.failMinute = 0 ∧
        (∀ n, new = .tap n → e.role = .tap (List.replicate n { confirmed := .unknown, link := none })) ∧
        (∀ enable, new = .node enable → e.role.kind = .node) ∧
        (∀ enable, new = .amplifier enable → e.role.kind = .amplifier) ∧
        (∀ enable, new = .node enable ∨ new = .amplifier enable → ∃ p, e.role.poll? = some p ∧ p.enable = enable ∧
          p.state = (if enable = false then .off else if s.plant.dark parent then .shadowed else .unverified) ∧
          p.misses = 0 ∧ p.low = -200 ∧ p.high = 200 ∧ p.hysteresis = 10 ∧ p.levelState = .normal ∧
          p.lastLevel = 0 ∧ p.power = .unknown) ∧
        t.poll = { s.poll with
          verify := if e.role.poll?.map (fun p => p.state) = some .unverified ∧ index ∉ s.poll.verify then
              s.poll.verify ++ [index]
            else s.poll.verify } ∧
        (∀ i x, i ≠ index → s.element? i = some x → t.element? i = some { x with
          firstChild := if i = parent ∧ parent ≠ 0 ∧ x.firstChild = none then some index else x.firstChild
          nextSibling := if (s.plant.children parent).getLast? = some i then some index else x.nextSibling }) ∧
        (∀ i, i ≠ index → s.element? i = none → t.element? i = none) ∧
        t.plant.rootFirst = (if parent = 0 ∧ s.plant.rootFirst = none then some index else s.plant.rootFirst) ∧
        t = { s with response := t.response, plant := t.plant, poll := t.poll } ∧
        t.plant.queue = s.plant.queue ∧ t.plant.walk = s.plant.walk ∧ t.plant.rederive = s.plant.rederive) ∧
    ((∃ i e, (i, e) ∈ s.plant.elements.entries ∧ e.group = group ∧ e.member = member) →
      exec (.addElement tag index kind parent group member last) s = .next (s.answering (refused tag .exists)))

/-- REMOVE ELEMENT of an element without child, linked port, order, walk, queue entry, owed mark or window empties its entry,
takes it off the Verify List and unlinks it: its parent's first child, or its predecessor's next sibling, takes its next
sibling, and no other link changes; a round begins where the timer is EXPIRED and the element was the last left in it (R79);
the waits of checks 6 and 7 give BUSY (R56, R61, R82). -/
def Obligations.RemoveElement : Prop :=
  ∀ (tag index : Nat) (s : State) (e : Element), s.takesRequests → 1 ≤ index → index ≤ 1023 →
    s.element? index = some e → e.firstChild = none → (∀ p, p ∈ e.role.ports → p.link = none) →
    (∀ o, o ∈ s.orders.queue → o.tap ≠ index) →
    (s.plant.walk = .idle → index ∉ s.plant.queue → e.mark = .none → (∀ w, s.up.window = some w → w.element ≠ index) →
      (∀ f, s.poll.flight = some f → f.element ≠ index) →
      ∃ t, exec (.removeElement tag index) s = .next t ∧ t.response = some (okay tag .none) ∧
        t.element? index = none ∧
        (s.plant.firstChild e.parent = some index →
          (∀ i x, i ≠ index → s.element? i = some x → t.element? i = some { x with
            firstChild := if i = e.parent ∧ e.parent ≠ 0 then e.nextSibling else x.firstChild }) ∧
          t.plant.rootFirst = (if e.parent = 0 then e.nextSibling else s.plant.rootFirst)) ∧
        (s.plant.firstChild e.parent ≠ some index →
          (∀ i x, i ≠ index → s.element? i = some x → t.element? i = some { x with
            nextSibling := if x.nextSibling = some index then e.nextSibling else x.nextSibling }) ∧
          t.plant.rootFirst = s.plant.rootFirst) ∧
        (∀ i, i ≠ index → s.element? i = none → t.element? i = none) ∧
        t.poll.verify = s.poll.verify.filter (fun i => i != index) ∧ t.poll.flight = s.poll.flight ∧
        (s.plant.elements.wf = true →
          State.roundChecked { s.poll with verify := s.poll.verify.filter (fun i => i != index) } t) ∧
        t = { s with response := t.response, poll := t.poll
                     plant := { s.plant with rootFirst := t.plant.rootFirst, elements := t.plant.elements } }) ∧
    (s.plant.walk ≠ .idle ∨ index ∈ s.plant.queue ∨ e.mark ≠ .none ∨
      (∃ w, s.up.window = some w ∧ w.element = index) ∨ (∃ f, s.poll.flight = some f ∧ f.element = index) →
      exec (.removeElement tag index) s = .next (s.answering (refused tag .busy)))

/-- A walk's visit to an element: the shadow flag from its parent's dark flag, the poll state, the dark flag, the miss count
and the mark by R67, the Verify List, which the element joins at the tail or leaves from its place, and the void mark by R77
and R82, and no other element touched (R63, R67); the homes it darkens or relights are the element's ports linked to ACTIVE or
SUSPENDED records, where its dark flag changes (R68). -/
def Obligations.VisitStep : Prop :=
  ∀ (s : State) (i : Nat) (e : Element), s.element? i = some e →
    let v := (s.visit i).1
    ∃ e', v.element? i = some e' ∧ e'.shadow = s.plant.dark e.parent ∧
      (∀ p, e.role.poll? = some p → ∃ p', e'.role.poll? = some p' ∧
        p'.state = (if s.plant.dark e.parent then (if p.state.inRound then .shadowed else p.state)
                    else (if p.state = .shadowed then .unverified else p.state)) ∧
        p'.misses = (if p'.state = p.state then p.misses else 0) ∧
        e'.dark = (e'.shadow || decide (p'.state = .failed)) ∧
        e'.mark = (if p'.state = .shadowed ∧ p.state ≠ .shadowed then .none else e.mark) ∧
        (p'.state = .shadowed → p.state ≠ .shadowed → i ∉ v.poll.verify ∧
          (∀ f, v.poll.flight = some f → f.element = i → f.void = true)) ∧
        (p'.state = .unverified → p.state = .shadowed → i ∈ v.poll.verify) ∧
        v.poll = (if p'.state = p.state then s.poll
          else if p'.state = .shadowed then
            { s.poll with
              verify := s.poll.verify.filter (fun j => j != i)
              flight := s.poll.flight.map (fun f => if f.element = i then { f with void := true } else f) }
          else { s.poll with verify := if i ∈ s.poll.verify then s.poll.verify else s.poll.verify ++ [i] })) ∧
      (∀ ports, e.role = .tap ports → e'.role = e.role ∧ e'.dark = e'.shadow ∧ e'.mark = e.mark ∧ v.poll = s.poll) ∧
      (let homes := (e.role.ports.filter (fun p =>
         match p.link.bind s.slot? with
         | some r => decide (r.state = .active ∨ r.state = .suspended)
         | none => false)).length
       (s.visit i).2 = (if e.dark = e'.dark then (0, 0) else if e'.dark = true then (homes, 0) else (0, homes))) ∧
      e'.parent = e.parent ∧ e'.firstChild = e.firstChild ∧ e'.nextSibling = e.nextSibling ∧
      e'.failMinute = e.failMinute ∧ e'.group = e.group ∧ e'.member = e.member ∧
      (∀ j, j ≠ i → v.element? j = s.element? j) ∧
      v = { s with plant := { s.plant with elements := v.plant.elements }, poll := v.poll }

/-- PROPAGATION_VISIT and REDERIVE_VISIT: the walk's next element in pre-order is visited by the step of R67; a propagation
walk takes the mark of its own element and counts the homes of the taps it changes, a re-derive walk takes every mark it
meets, counts the homes for each element that owes a notice and whose subtree it is in, and posts the notices of the subtrees
it has finished, the lower first (R67, R68, R71); a round begins where the visit leaves none of its elements (R79). DEDUCED
are that the element visited is the next in the tree as it stands at the visit (entry 17), that a re-derive walk posts within
the visit that finishes a subtree (entry 16), and that its counts stop at 4,096 (entry 15). -/
def Obligations.WalkVisits : Prop :=
  (∀ (s : State) (own : Owing) (i : Nat) (e : Element), s.plant.walk = .propagation own none → i = own.element →
    s.element? i = some e →
    ∃ t e' own', exec .propagationVisit s = .next t ∧ (s.visit i).1.element? i = some e' ∧
      t.element? i = some { e' with mark := .none } ∧ t.plant.walk = .propagation own' (some i) ∧
      own'.element = own.element ∧ own'.mark = e'.mark ∧ own'.failMinute = e'.failMinute ∧
      own'.darkened = min 4096 (own.darkened + (s.visit i).2.1) ∧
      own'.relit = min 4096 (own.relit + (s.visit i).2.2) ∧
      (∀ j, j ≠ i → t.element? j = s.element? j) ∧ t.poll.verify = (s.visit i).1.poll.verify ∧
      t.poll.flight = (s.visit i).1.poll.flight ∧
      (s.plant.elements.wf = true → State.roundChecked (s.visit i).1.poll t) ∧
      t = { s with plant := { s.plant with elements := t.plant.elements, walk := t.plant.walk }, poll := t.poll }) ∧
  (∀ (s : State) (own : Owing) (l i : Nat) (e : Element), s.plant.walk = .propagation own (some l) →
    s.plant.after own.element l = some i → i ≠ own.element → s.element? i = some e →
    ∃ t own', exec .propagationVisit s = .next t ∧ t.element? i = (s.visit i).1.element? i ∧
      t.plant.walk = .propagation own' (some i) ∧
      own' = { own with darkened := min 4096 (own.darkened + (s.visit i).2.1)
                        relit := min 4096 (own.relit + (s.visit i).2.2) } ∧
      (∀ j, j ≠ i → t.element? j = s.element? j) ∧ t.poll.verify = (s.visit i).1.poll.verify ∧
      t.poll.flight = (s.visit i).1.poll.flight ∧
      (s.plant.elements.wf = true → State.roundChecked (s.visit i).1.poll t) ∧
      t = { s with plant := { s.plant with elements := t.plant.elements, walk := t.plant.walk }, poll := t.poll }) ∧
  (∀ (s : State) (owing : List Owing) (l i : Nat) (e : Element), s.plant.walk = .rederive l owing →
    s.plant.after 0 l = some i → s.element? i = some e →
    ∃ t e' left, exec .rederiveVisit s = .next t ∧ (s.visit i).1.element? i = some e' ∧
      t.element? i = some { e' with mark := .none } ∧ t.plant.walk = .rederive i left ∧
      (∀ j, j ≠ i → t.element? j = s.element? j) ∧ t.poll.verify = (s.visit i).1.poll.verify ∧
      t.poll.flight = (s.visit i).1.poll.flight ∧
      (s.plant.elements.wf = true → State.roundChecked (s.visit i).1.poll t) ∧
      t = { s with plant := { s.plant with elements := t.plant.elements, walk := t.plant.walk }, poll := t.poll
                   notices := t.notices } ∧
      (owing = [] → e'.mark = .none → left = [] ∧ t.notices = s.notices) ∧
      (owing = [] → e'.mark = .outage → s.plant.after 0 i = none → left = [] ∧ t.notices =
        s.notices.post s.clock.minute (.outage (min 4096 (s.visit i).2.1) e'.failMinute) (.element i)) ∧
      (let counted : List Owing := owing.map (fun o =>
         { o with darkened := min 4096 (o.darkened + (s.visit i).2.1), relit := min 4096 (o.relit + (s.visit i).2.2) })
       let owed : List Owing := if e'.mark = .none then counted else
         { element := i, mark := e'.mark, failMinute := e'.failMinute, darkened := min 4096 (s.visit i).2.1
           relit := min 4096 (s.visit i).2.2 } :: counted
       let open_ (o : Owing) : Bool :=
         (s.plant.after 0 i).any (fun n => s.plant.below o.element (Config.elements + 1) n)
       left = owed.filter open_ ∧
       t.notices = (owed.filter (fun o => !open_ o)).foldl (fun q o =>
         match o.mark with
         | .none => q
         | .outage => q.post s.clock.minute (.outage o.darkened o.failMinute) (.element o.element)
         | .restored r => q.post s.clock.minute (.restored o.relit (s.clock.minute - o.failMinute) r)
             (.element o.element)) s.notices))

/-- PROPAGATION_WALK_END and REDERIVE_WALK_END: a walk with nothing left to visit posts the notice it owes, releases every
HELD order on a lit tap in its place, and the next walk begins: the head of the queue, else the re-derive walk if its flag is
set, else none (R66, R70, R71, R96). -/
def Obligations.WalkEnds : Prop :=
  (∀ (s : State) (own : Owing) (l : Nat), s.plant.walk = .propagation own (some l) →
    s.plant.after own.element l = none →
    ∃ t, exec .propagationWalkEnd s = .next t ∧
      (own.mark = .none → t.notices = s.notices) ∧
      (own.mark = .outage → t.notices =
        s.notices.post s.clock.minute (.outage own.darkened own.failMinute) (.element own.element)) ∧
      (∀ r, own.mark = .restored r → t.notices =
        s.notices.post s.clock.minute (.restored own.relit (s.clock.minute - own.failMinute) r)
          (.element own.element)) ∧
      t.orders.queue = s.orders.queue.map (fun o =>
        if o.state = .held ∧ s.plant.dark o.tap = false then { o with state := .queued } else o) ∧
      State.walkBegun s.plant t ∧ t.plant.elements = s.plant.elements ∧
      t = { s with notices := t.notices, orders := { s.orders with queue := t.orders.queue }, plant := t.plant }) ∧
  (∀ (s : State) (l : Nat), s.plant.walk = .rederive l [] → s.plant.after 0 l = none →
    ∃ t, exec .rederiveWalkEnd s = .next t ∧ t.notices = s.notices ∧
      t.orders.queue = s.orders.queue.map (fun o =>
        if o.state = .held ∧ s.plant.dark o.tap = false then { o with state := .queued } else o) ∧
      State.walkBegun s.plant t ∧ t.plant.elements = s.plant.elements ∧
      t = { s with orders := { s.orders with queue := t.orders.queue }, plant := t.plant })

-- the Poll Engine

/-- SET POLL SETTINGS replaces the three settings, SET LEVEL WINDOW one element's window without evaluating it, and the expiry
of the round timer begins a round only where no element is left in the round (R74, R78, R79, R87). -/
def Obligations.PollSettings : Prop :=
  (∀ (tag timeout missLimit period : Nat) (s : State), s.takesRequests →
    (timeout ≤ 3 → 1 ≤ missLimit → missLimit ≤ 15 → 5 ≤ period → period ≤ 600 →
      exec (.setPollSettings tag timeout missLimit period) s = .next { s with
        response := some (okay tag (.pollSettings timeout missLimit period))
        poll := { s.poll with timeout := timeout, missLimit := missLimit, roundPeriod := period } }) ∧
    (3 < timeout ∨ missLimit = 0 ∨ 15 < missLimit ∨ period < 5 ∨ 600 < period →
      exec (.setPollSettings tag timeout missLimit period) s = .next (s.answering (refused tag .range)))) ∧
  (∀ (tag index hysteresis : Nat) (low high : Int) (s : State) (e : Element), s.takesRequests → 1 ≤ index → index ≤ 1023 →
    -200 ≤ low → low ≤ 200 → -200 ≤ high → high ≤ 200 → 1 ≤ hysteresis → hysteresis ≤ 30 → s.element? index = some e →
    (∀ p, e.role.poll? = some p → low ≤ high →
      ∃ t e', exec (.setLevelWindow tag index low high hysteresis) s = .next t ∧
        t.response = some (okay tag (.levelWindow low high hysteresis p.levelState p.lastLevel)) ∧
        t.element? index = some e' ∧ e' = { e with role := e'.role } ∧ e'.role.kind = e.role.kind ∧
        e'.role.poll? = some { p with low := low, high := high, hysteresis := hysteresis } ∧
        (∀ i, i ≠ index → t.element? i = s.element? i) ∧
        t = { s with response := t.response, plant := { s.plant with elements := t.plant.elements } }) ∧
    (∀ p, e.role.poll? = some p → high < low →
      exec (.setLevelWindow tag index low high hysteresis) s =
        .next (s.answering (refusedFor tag .invalid .window .none))) ∧
    (e.role.kind = .tap → exec (.setLevelWindow tag index low high hysteresis) s =
      .next (s.answering (refusedFor tag .invalid .kind .none)))) ∧
  (∀ s : State, s.poll.expired = false →
    (s.leftInRound.isSome = true → exec .roundTimerExpiry s = .next { s with poll := { s.poll with expired := true } }) ∧
    (s.leftInRound = none → exec .roundTimerExpiry s = .next { s with poll := { s.poll with
      position := 1, expired := false, periodInForce := s.poll.roundPeriod } }))

/-- SET POLLING withdraws an element from polling and returns it: the poll state, the enable, the miss count, the Verify List,
the void mark, the round that may begin, and the restore a FAILED element asks for, which leaves its mark and enters the
Propagation Queue, a running walk going on and one beginning where none runs (R64, R65, R66, R77, R79, R82, R85, R86). No
other element changes. That an element already as asked is answered with its poll state is DEDUCED (entry 18). -/
def Obligations.SetPolling : Prop :=
  ∀ (tag index : Nat) (s : State) (e : Element) (p : PollRecord), s.takesRequests → 1 ≤ index → index ≤ 1023 →
    s.element? index = some e → e.role.poll? = some p →
    (p.enable = true → p.state ≠ .failed →
      ∃ t e', exec (.setPolling tag index 0) s = .next t ∧ t.response = some (okay tag (.pollState p.state)) ∧
        t.element? index = some e' ∧ e' = { e with role := e'.role } ∧ e'.role.kind = e.role.kind ∧
        e'.role.poll? = some { p with enable := false, state := .off, misses := 0 } ∧
        (∀ i, i ≠ index → t.element? i = s.element? i) ∧
        t.poll.verify = s.poll.verify.filter (fun i => i != index) ∧
        (∀ f, s.poll.flight = some f → t.poll.flight = some { f with void := f.void || decide (f.element = index) }) ∧
        (s.plant.elements.wf = true → State.roundChecked (s.poll.withdrawn index) t) ∧
        t = { s with response := t.response, poll := t.poll
                     plant := { s.plant with elements := t.plant.elements } }) ∧
    (p.enable = true → p.state = .failed →
      ∃ t e', exec (.setPolling tag index 0) s = .next t ∧ t.response = some (okay tag (.pollState .failed)) ∧
        t.element? index = some e' ∧ e' = { e with role := e'.role, mark := e'.mark } ∧ e'.role.kind = e.role.kind ∧
        e'.role.poll? = some { p with enable := false, state := .off, misses := 0 } ∧
        e'.mark = (match e.mark with | .none => .restored .withdrawn | .outage => .none
                                     | .restored _ => .restored .withdrawn) ∧
        (∀ i, i ≠ index → t.element? i = s.element? i) ∧
        s.walkRequested t index ∧
        (s.plant.walk = .idle → s.plant.queue = [] → s.plant.rederive = false →
          ∃ own, t.plant.walk = .propagation own none ∧ own.element = index) ∧
        t.poll.verify = s.poll.verify.filter (fun i => i != index) ∧
        (∀ f, s.poll.flight = some f → t.poll.flight = some { f with void := f.void || decide (f.element = index) }) ∧
        (s.plant.elements.wf = true → State.roundChecked (s.poll.withdrawn index) t) ∧
        t = { s with response := t.response, poll := t.poll, plant := t.plant }) ∧
    (p.enable = false →
      ∃ t e', exec (.setPolling tag index 1) s = .next t ∧
        t.response = some (okay tag (.pollState (if e.shadow then .shadowed else .unverified))) ∧
        t.element? index = some e' ∧ e' = { e with role := e'.role } ∧ e'.role.kind = e.role.kind ∧
        e'.role.poll? = some { p with enable := true, misses := 0
                                      state := if e.shadow then .shadowed else .unverified } ∧
        (∀ i, i ≠ index → t.element? i = s.element? i) ∧
        (e.shadow = true → t.poll = s.poll) ∧
        (e.shadow = false → t.poll = { s.poll with
          verify := if index ∈ s.poll.verify then s.poll.verify else s.poll.verify ++ [index] }) ∧
        t = { s with response := t.response, poll := t.poll
                     plant := { s.plant with elements := t.plant.elements } }) ∧
    (p.enable = true → exec (.setPolling tag index 1) s = .next (s.answering (okay tag (.pollState p.state)))) ∧
    (p.enable = false → exec (.setPolling tag index 0) s = .next (s.answering (okay tag (.pollState p.state))))

/-- The level state after an answer, for every level, window and state before (the table of R88). -/
def Obligations.LevelTable : Prop :=
  ∀ (L l h : Int) (d : Nat),
    (LevelState.normal.evaluate L l h d = if L < l then .low else if L > h then .high else .normal) ∧
    (LevelState.low.evaluate L l h d = if L > h then .high else if L ≥ l + d then .normal else .low) ∧
    (LevelState.high.evaluate L l h d = if L < l then .low else if L ≤ h - d then .normal else .high)

/-- A POLL REPLY that matches the open window and reaches an element in polling closes the window and is its answer: the miss
count, the poll state, the power state and the level with its state, and nothing of another element (R83, R88, R90, R131); the
answer of a FAILED element leaves the mark of the restore it asks for, which enters the Propagation Queue (R64, R65, R66). A
change of the power state, but not the first answer on mains, is posted as POWER, and after it a change of the level state as
LEVEL (R88, R90). -/
def Obligations.PollAnswered : Prop :=
  ∀ (s : State) (w : ReplyWindow) (f : PollFlight) (e : Element) (p : PollRecord) (level : Int) (power : Nat),
    s.takesFrames → s.systemCode.isSome = true → w.group ≤ 62 → power ≤ 1 →
    s.up.window = some w → w.kind = .poll → s.poll.flight = some f → f.void = false → s.element? f.element = some e →
    e.role.poll? = some p → p.state.inRound = true →
    ∃ t e' p', exec (.pollReply (s.systemCode.getD 0) w.group w.member level power) s = .next t ∧
      t.up = { s.up with window := none } ∧ t.poll = { s.poll with flight := none } ∧
      t.element? f.element = some e' ∧ e' = { e with role := e'.role, mark := e'.mark } ∧
      e'.role.kind = e.role.kind ∧ e'.role.poll? = some p' ∧
      p' = { p with misses := 0, state := .up, power := (if power = 0 then .mains else .standby)
                    lastLevel := max (-200) (min 200 level)
                    levelState := p.levelState.evaluate (max (-200) (min 200 level)) p.low p.high p.hysteresis } ∧
      (∀ i, i ≠ f.element → t.element? i = s.element? i) ∧
      (p.state ≠ .failed → e'.mark = e.mark ∧ t.plant = { s.plant with elements := t.plant.elements }) ∧
      (p.state = .failed → s.walkRequested t f.element ∧
        e'.mark = (match e.mark with | .none => .restored .answer | .outage => .none
                                     | .restored _ => .restored .answer)) ∧
      (let powered : NoticeQueue :=
         if p'.power = p.power ∨ (p.power = .unknown ∧ p'.power = .mains) then s.notices
         else s.notices.post s.clock.minute (.power p'.power p.power) (.element f.element)
       t.notices = if p'.levelState = p.levelState then powered
         else powered.post s.clock.minute (.level p'.levelState p'.lastLevel p.low p.high) (.element f.element)) ∧
      t = { s with up := t.up, poll := t.poll, plant := t.plant, notices := t.notices }

/-- The expiry of an open window closes it, sets the late mark, and is a no-answer of its owner: the miss count and, at the
miss limit, FAILED with the mark it owes and its failure in the Propagation Queue for a poll (R64, R65, R66); for an order
frame what R103 and R104 give each of its orders, those that return standing at the head in frame order, with ORDER FAILED and
its subject for each that fails (R84, R95, R103, R104, R105, R132). That the follow-ons of several orders that fail join the
tail in frame order is the model's choice (entry 30). -/
def Obligations.WindowExpires : Prop :=
  (∀ (s : State) (w : ReplyWindow) (f : PollFlight) (e : Element) (p : PollRecord),
    s.up.window = some w → w.kind = .poll → s.poll.flight = some f → f.void = false →
    s.element? f.element = some e → e.role.poll? = some p →
    ∃ t e' p', exec .windowExpiry s = .next t ∧
      t.up = { s.up with window := none, late := some { kind := .poll, group := w.group, member := w.member } } ∧
      t.poll = { s.poll with flight := none } ∧ t.element? f.element = some e' ∧
      e' = { e with role := e'.role, mark := e'.mark, failMinute := e'.failMinute } ∧ e'.role.kind = e.role.kind ∧
      e'.role.poll? = some p' ∧
      p'.misses = min 15 (p.misses + 1) ∧
      p'.state = (if (p.state = .unverified ∨ p.state = .up) ∧ s.poll.missLimit ≤ min 15 (p.misses + 1) then .failed
                  else p.state) ∧
      p' = { p with misses := p'.misses, state := p'.state } ∧
      (p'.state = p.state → e'.mark = e.mark ∧ e'.failMinute = e.failMinute ∧
        t.plant = { s.plant with elements := t.plant.elements }) ∧
      (p'.state ≠ p.state → s.walkRequested t f.element ∧
        e'.mark = (match e.mark with | .none => .outage | .outage => .outage | .restored _ => .none) ∧
        e'.failMinute = (if e.mark = .none then s.clock.minute else e.failMinute)) ∧
      (∀ i, i ≠ f.element → t.element? i = s.element? i) ∧
      t = { s with up := t.up, poll := t.poll, plant := t.plant }) ∧
  (∀ (s : State) (w : ReplyWindow) (f : OrderFlight), s.up.window = some w → w.kind = .order →
    s.orders.flight = some f → s.ordersAgree →
    ∃ t, exec .windowExpiry s = .next t ∧
      t.up = { s.up with window := none, late := some { kind := .order, group := w.group, member := w.member } } ∧
      t.orders.flight = none ∧
      (s.plant.dark f.tap = true → t.plant = s.plant ∧ t.notices = s.notices ∧
        t.orders.queue = s.orders.queue.map (fun o =>
          if o.tap = f.tap ∧ o.port ∈ f.ports then ({ o with state := .held }).applyFollowOn else o)) ∧
      (s.plant.dark f.tap = false → (∀ o, o ∈ s.orders.queue → o.state = .sent → o.attempts < 2) →
        t.plant = s.plant ∧ t.notices = s.notices ∧
        ∀ p o, p ∈ f.ports → s.order? f.tap p = some o →
          t.order? f.tap p = some ({ o with state := .queued, attempts := o.attempts + 1 }).applyFollowOn) ∧
      (s.plant.dark f.tap = false → ∀ p o record, p ∈ f.ports → s.order? f.tap p = some o → o.attempts = 2 →
        s.port? f.tap p = some record → t.port? f.tap p = some { record with confirmed := .unknown } ∧
          (o.followOn = none → t.order? f.tap p = none)) ∧
      s.frameEnded t f (fun _ => none) ∧
      t = { s with up := t.up, orders := t.orders, plant := { s.plant with elements := t.plant.elements }
                   notices := t.notices })

-- the Order Engine

/-- An ORDER REPLY that matches the open window closes it and decides the frame: at an ACK the port is confirmed as ordered
and the order leaves, at a NAK the port is confirmed FAULT and the order leaves with ORDER FAILED, the first result for a port
decides, a port without a result is treated as after no answer, and the ports of no order of the frame are not touched (R95,
R100, R101, R102, R105, R131). -/
def Obligations.OrderReplied : Prop :=
  ∀ (s : State) (w : ReplyWindow) (f : OrderFlight) (results : List (Nat × Nat)),
    s.takesFrames → s.systemCode.isSome = true → w.group ≤ 62 → results.length ≤ 8 →
    (∀ r, r ∈ results → r.1 ≤ 7 ∧ r.2 ≤ 1) →
    s.up.window = some w → w.kind = .order → s.orders.flight = some f → s.ordersAgree →
    ∃ t, exec (.orderReply (s.systemCode.getD 0) w.group w.member results) s = .next t ∧
      t.up = { s.up with window := none } ∧ t.orders.flight = none ∧
      (∀ p o record k, p ∈ f.ports → s.order? f.tap p = some o → s.port? f.tap p = some record →
        results.find? (fun r => r.1 == p) = some (p, k) →
        t.port? f.tap p = some { record with confirmed := if k = 0 then o.setting.confirms else .fault } ∧
        (o.followOn = none → t.order? f.tap p = none) ∧
        (∀ x, o.followOn = some x → ∃ o', t.order? f.tap p = some o' ∧ o'.setting = x ∧ o'.attempts = 0 ∧
          o'.origin = o.origin ∧ o'.followOn = none ∧
          o'.state = (if s.plant.dark f.tap then .held else .queued))) ∧
      (∀ a b, ¬ (a = f.tap ∧ b ∈ f.ports) → t.port? a b = s.port? a b ∧ t.order? a b = s.order? a b) ∧
      s.frameEnded t f (fun p => (results.find? (fun r => r.1 == p)).map (fun r => decide (r.2 = 0))) ∧
      t = { s with up := t.up, orders := t.orders, plant := { s.plant with elements := t.plant.elements }
                   notices := t.notices }

/-- A HOLD that matches the window restarts its timer and is counted, up to three; the fourth closes the window as an expiry
does (R99, R131, R132). -/
def Obligations.HoldTaken : Prop :=
  ∀ (s : State) (w : ReplyWindow) (f : OrderFlight), s.takesFrames → s.systemCode.isSome = true → w.group ≤ 62 →
    s.up.window = some w → w.kind = .order → s.orders.flight = some f →
    (f.holds < 3 → exec (.hold (s.systemCode.getD 0) w.group w.member) s = .next { s with
      up := { s.up with window := some { w with timer := 250 } }
      orders := { s.orders with flight := some { f with holds := f.holds + 1 } } }) ∧
    (3 ≤ f.holds → exec (.hold (s.systemCode.getD 0) w.group w.member) s = exec .windowExpiry s)

-- the Downstream Scheduler

/-- The end of a transmission opens the Reply Window of a POLL or ORDER frame with its timer, and the arbiter chooses at once:
the free window to orders or a poll by line 1 of R111, a due map frame by line 2, then the first entry of the Expedite List
that can be sent by line 3, each before it being discarded, with the counts each grant leaves (R73, R81, R98, R110, R111,
R114, R122, R130). An ORDER grant takes the oldest QUEUED order and up to 3 more for its tap (R97); a POLL grant the head of
the Verify List, or else the lowest element left in the round, which may begin the next round (R79, R80); a MAP grant the next
frame of the map pass (R124). Lines 4 and 5 are stated of the carousel. -/
def Obligations.TransmissionEnds : Prop :=
  ∀ (s : State) (tr : Transmission), s.down.transmission = some tr →
    ∃ t next, exec .transmissionEnd s = .next t ∧ t.down.transmission = some next ∧
      (∀ i g m, tr.frame = .poll i g m → t.up.window = some
        { kind := .poll, element := i, group := g, member := m
          timer := match s.poll.timeout with | 0 => 25 | 1 => 60 | 2 => 150 | _ => 400 }) ∧
      (∀ i g m a, tr.frame = .order i g m a → t.up.window = some
        { kind := .order, element := i, group := g, member := m, timer := 250 }) ∧
      ((∀ i g m, tr.frame ≠ .poll i g m) → (∀ i g m a, tr.frame ≠ .order i g m a) → t.up = s.up) ∧
      (next.stream = .order ↔ s.windowFree = true ∧ s.canBuild = true ∧ (s.pollDue = false ∨ s.down.orderRun < 4)) ∧
      (next.stream = .poll ↔ s.windowFree = true ∧ s.pollDue = true ∧ (s.canBuild = false ∨ 4 ≤ s.down.orderRun)) ∧
      (next.stream ≠ .order → next.stream ≠ .poll → s.down.mapGap = 7 → next.stream = .map) ∧
      (next.stream ≠ .order → next.stream ≠ .poll → s.down.mapGap ≠ 7 → ∀ f rest,
        s.expediteHead s.down.expedite = some (f, rest) → next = ⟨.expedite, f⟩ ∧ t.down.expedite = rest) ∧
      (next.stream = .order → t.down.orderRun = min 4 (s.down.orderRun + 1)) ∧
      (next.stream = .poll → t.down.orderRun = 0) ∧
      (next.stream = .map → t.down.mapGap = 0 ∧ t.down.orderRun = s.down.orderRun) ∧
      (next.stream ≠ .map → t.down.mapGap = min 7 (s.down.mapGap + 1)) ∧
      (next.stream ≠ .poll → next.stream ≠ .order → t.down.orderRun = s.down.orderRun) ∧
      -- what each entry of the Expedite List sends (R116, R122)
      (next.stream = .expedite → ∀ e rest, s.down.expedite = e :: rest →
        (∀ n r a, e = .refresh n → s.slot? n = some r → r.converter = some a → t.down.expedite = rest ∧
          next.frame = if r.state = .active then .auth n a true s.lineUp.current.number r.tiers r.purchases
                       else .auth n a false s.lineUp.current.number 0 []) ∧
        (∀ a, e = .disable a → s.subs.converters.get? a = none → t.down.expedite = rest ∧ next.frame = .disable a) ∧
        (∀ n event reason r a, e = .decline n event reason → s.slot? n = some r → r.converter = some a →
          t.down.expedite = rest ∧ next.frame = .decline n a event reason)) ∧
      -- the head of the list discarded: the choice is as without it (R122)
      (s.windowFree = false ∨ (s.canBuild = false ∧ s.pollDue = false) → s.down.mapGap ≠ 7 → ∀ e rest,
        s.down.expedite = e :: rest →
        (∃ n, (e = .refresh n ∨ ∃ event reason, e = .decline n event reason) ∧
            ∀ r, s.slot? n = some r → r.converter = none) ∨
          (∃ a, e = .disable a ∧ (s.subs.converters.get? a).isSome = true) →
        exec .transmissionEnd { s with down := { s.down with expedite := rest } } = .next t) ∧
      -- an ORDER grant (R97, R98)
      (next.stream = .order → ∀ before o after, s.orders.queue = before ++ o :: after → o.state = .queued →
        (∀ x, x ∈ before → x.state ≠ .queued) →
        let batch := (s.orders.queue.filter (fun x => decide (x.state = .queued ∧ x.tap = o.tap))).take 4
        (∀ e, s.element? o.tap = some e →
          next.frame = .order o.tap e.group e.member (batch.map (fun x => (x.port, x.setting)))) ∧
        t.orders = { queue := s.orders.queue.map (fun x =>
                       if x.state = .queued ∧ x.tap = o.tap ∧ x.port ∈ batch.map (fun y => y.port)
                       then { x with state := .sent } else x)
                     flight := some { tap := o.tap, ports := batch.map (fun y => y.port), opened := false, holds := 0 } }) ∧
      (next.stream ≠ .order → t.orders = (match tr.frame with
        | .order _ _ _ _ => { s.orders with flight := s.orders.flight.map (fun f => { f with opened := true }) }
        | _ => s.orders)) ∧
      -- a POLL grant (R79, R80, R81)
      (next.stream = .poll → ∀ i rest, s.poll.verify = i :: rest →
        (∀ e, s.element? i = some e → next.frame = .poll i e.group e.member) ∧ t.poll.verify = rest ∧
        t.poll.flight = some { element := i, opened := false, void := false } ∧
        (s.poll.expired = false → t.poll = { s.poll with verify := rest, flight := t.poll.flight })) ∧
      (next.stream = .poll → s.poll.verify = [] → s.plant.elements.wf = true → ∀ i e, s.poll.position ≤ i →
        s.element? i = some e → e.inRound = true →
        (∀ j x, s.poll.position ≤ j → j < i → s.element? j = some x → x.inRound = false) →
        next.frame = .poll i e.group e.member ∧
        t.poll.flight = some { element := i, opened := false, void := false } ∧
        (s.poll.expired = false ∨ (∃ j x, i < j ∧ s.element? j = some x ∧ x.inRound = true) →
          t.poll = { s.poll with position := i + 1, flight := t.poll.flight }) ∧
        (s.poll.expired = true → (∀ j x, i < j → s.element? j = some x → x.inRound = false) →
          t.poll = { s.poll with position := 1, expired := false, periodInForce := s.poll.roundPeriod
                                 flight := t.poll.flight })) ∧
      (next.stream ≠ .poll → t.poll = (match tr.frame with
        | .poll _ _ _ => { s.poll with flight := s.poll.flight.map (fun f => { f with opened := true }) }
        | _ => s.poll)) ∧
      -- a MAP grant (R124)
      (next.stream = .map →
        let begins : Prop := next.frame = .time s.clock.minute s.clock.isSet s.lineUp.current.number ∧
          t.down.phase = .current ∧ t.down.lastChannel = none
        (s.down.phase = .time → begins) ∧
        (∀ n c, s.down.phase = .current → s.lineUp.current.firstAbove s.down.lastChannel n c →
          next.frame = .mapCurrent s.lineUp.current.number n c ∧ t.down.phase = .current ∧
          t.down.lastChannel = some n) ∧
        (∀ g m n c, s.lineUp.editor = .scheduled g m →
          (s.down.phase = .current ∧ s.lineUp.current.noneAbove s.down.lastChannel ∧ g.firstAbove none n c) ∨
            (s.down.phase = .next ∧ g.firstAbove s.down.lastChannel n c) →
          next.frame = .mapNext g.number n c m ∧ t.down.phase = .next ∧ t.down.lastChannel = some n) ∧
        ((s.down.phase = .current ∧ s.lineUp.current.noneAbove s.down.lastChannel ∧
            ∀ g m, s.lineUp.editor = .scheduled g m → g.noneAbove none) ∨
          (s.down.phase = .next ∧ ∀ g m, s.lineUp.editor = .scheduled g m → g.noneAbove s.down.lastChannel) → begins)) ∧
      -- what a grant leaves of the transmitter
      (next.stream ≠ .map → t.down.phase = s.down.phase ∧ t.down.lastChannel = s.down.lastChannel) ∧
      (next.stream ≠ .carousel → t.down.cursor = s.down.cursor ∧ t.down.passes = s.down.passes) ∧
      (next.stream = .order ∨ next.stream = .poll ∨ s.down.mapGap = 7 → t.down.expedite = s.down.expedite) ∧
      t.down.drops = s.down.drops ∧
      t = { s with down := t.down, up := t.up, poll := t.poll, orders := t.orders }

/-- Lines 4 and 5 of R111, where no window frame, no due map frame and no entry of the Expedite List comes first: the carousel
sends the lowest slot at or above the cursor with a converter, or else, with the pass count one higher, the lowest from 0; the
cursor passes the slot, and at slot 4,095 returns to 0 with the pass count one higher; the frame carries the record as it
stands, with tiers and purchases only for an ACTIVE record; with no converter at all the map stream is granted (R111, R115,
R116). The entries of the list that could not be sent are discarded (R122). -/
def Obligations.CarouselSends : Prop :=
  (∀ (s : State) (n : Nat) (r : Subscriber) (a : Nat), s.subs.slots.wf = true → s.slot? n = some r →
    r.converter = some a → n < 4095 → s.down.cursor ≤ n →
    (∀ k x, s.down.cursor ≤ k → k < n → s.slot? k = some x → x.converter = none) →
    ∃ t, s.chooseBackground = t ∧ t.down.cursor = n + 1 ∧ t.down.passes = s.down.passes ∧
      t.down.transmission = some ⟨.carousel,
        if r.state = .active then .auth n a true s.lineUp.current.number r.tiers r.purchases
        else .auth n a false s.lineUp.current.number 0 []⟩ ∧
      t = { s with down := t.down }) ∧
  (∀ (s : State) (tr : Transmission), s.down.transmission = some tr → s.down.mapGap ≠ 7 →
    s.windowFree = false ∨ (s.canBuild = false ∧ s.pollDue = false) → s.expediteHead s.down.expedite = none →
    (∀ (n passes : Nat) (r : Subscriber) (a : Nat), s.subs.slots.wf = true → s.slot? n = some r → r.converter = some a →
      (s.down.cursor ≤ n ∧ passes = s.down.passes ∧
          ∀ k x, s.down.cursor ≤ k → k < n → s.slot? k = some x → x.converter = none) ∨
        (passes = (s.down.passes + 1) % 65536 ∧ (∀ k x, k < n → s.slot? k = some x → x.converter = none) ∧
          ∀ k x, s.down.cursor ≤ k → s.slot? k = some x → x.converter = none) →
      ∃ t, exec .transmissionEnd s = .next t ∧ t.down = { s.down with
        transmission := some ⟨.carousel,
          if r.state = .active then .auth n a true s.lineUp.current.number r.tiers r.purchases
          else .auth n a false s.lineUp.current.number 0 []⟩
        cursor := if n = 4095 then 0 else n + 1
        passes := if n = 4095 then (passes + 1) % 65536 else passes
        expedite := [], mapGap := min 7 (s.down.mapGap + 1) }) ∧
    (s.subs.slots.wf = true → (∀ k x, s.slot? k = some x → x.converter = none) →
      ∃ t next, exec .transmissionEnd s = .next t ∧ t.down.transmission = some next ∧ next.stream = .map ∧
        t.down.expedite = []))

/-- The write barrier and the Expedite List: a report of a slot behind the cursor or on the wire is a REFRESH, once; a report
of any other slot does nothing; a full list drops an offered REFRESH, and gives a DISABLE or a DECLINE the place of its oldest
REFRESH, or drops it, a DISABLE with a notice; a DECLINE of a slot and an event that are on the list takes their place with
its own reason; each loss is counted (R118, R119, R120, R121, R123). -/
def Obligations.WriteBarrier : Prop :=
  ∀ s : State,
    (∀ slot, s.down.cursor ≤ slot → s.down.onWire slot = false → s.report slot = s) ∧
    (∀ slot, slot < s.down.cursor ∨ s.down.onWire slot = true → .refresh slot ∈ s.down.expedite → s.report slot = s) ∧
    (∀ slot, slot < s.down.cursor ∨ s.down.onWire slot = true → .refresh slot ∉ s.down.expedite →
      (s.down.expedite.length < 32 →
        s.report slot = { s with down := { s.down with expedite := s.down.expedite ++ [.refresh slot] } }) ∧
      (32 ≤ s.down.expedite.length →
        s.report slot = { s with down := { s.down with drops := min 65535 (s.down.drops + 1) } })) ∧
    (∀ a, .disable a ∈ s.down.expedite → s.offer (.disable a) = s) ∧
    (∀ a, .disable a ∉ s.down.expedite → s.down.expedite.length < 32 →
      s.offer (.disable a) = { s with down := { s.down with expedite := s.down.expedite ++ [.disable a] } }) ∧
    (∀ a before n after, .disable a ∉ s.down.expedite → 32 ≤ s.down.expedite.length →
      s.down.expedite = before ++ .refresh n :: after → (∀ m, .refresh m ∉ before) →
      s.offer (.disable a) = { s with down := { s.down with
        expedite := before ++ after ++ [.disable a], drops := min 65535 (s.down.drops + 1) } }) ∧
    (∀ a, .disable a ∉ s.down.expedite → 32 ≤ s.down.expedite.length → (∀ n, .refresh n ∉ s.down.expedite) →
      s.offer (.disable a) = { s with
        down := { s.down with drops := min 65535 (s.down.drops + 1) }
        notices := s.notices.post s.clock.minute .disableLost (.converter a) }) ∧
    (∀ slot event reason,
      (∀ before held after, s.down.expedite = before ++ .decline slot event held :: after →
        (∀ x, .decline slot event x ∉ before) →
        s.offer (.decline slot event reason) = { s with down := { s.down with
          expedite := before ++ .decline slot event reason :: after } }) ∧
      ((∀ x, .decline slot event x ∉ s.down.expedite) →
        (s.down.expedite.length < 32 →
          s.offer (.decline slot event reason) = { s with down := { s.down with
            expedite := s.down.expedite ++ [.decline slot event reason] } }) ∧
        (∀ before n after, 32 ≤ s.down.expedite.length → s.down.expedite = before ++ .refresh n :: after →
          (∀ m, .refresh m ∉ before) →
          s.offer (.decline slot event reason) = { s with down := { s.down with
            expedite := before ++ after ++ [.decline slot event reason], drops := min 65535 (s.down.drops + 1) } }) ∧
        (32 ≤ s.down.expedite.length → (∀ n, .refresh n ∉ s.down.expedite) →
          s.offer (.decline slot event reason) = { s with down := { s.down with
            drops := min 65535 (s.down.drops + 1) } })))

-- the Upstream Receiver and purchases

/-- Every upstream frame whose fields fit, from any sender, is what the part parses from its bytes, and it is the same whether
it comes as its bytes or as its row of the table (R129, R193). -/
def Obligations.UpstreamRoundTrip : Prop :=
  ((∀ system group member power (level : Int), system < 65536 → group < 256 → member < 256 → power < 256 →
     -32768 ≤ level → level ≤ 32767 →
     parseUpstream (UpFrame.bytes system (.pollReply group member level power)) =
       some (some system, some (.pollReply group member level power))) ∧
   (∀ system group member (results : List (Nat × Nat)), system < 65536 → group < 256 → member < 256 →
     results.length < 256 → (∀ r, r ∈ results → r.1 < 256 ∧ r.2 < 256) →
     parseUpstream (UpFrame.bytes system (.orderReply group member results)) =
       some (some system, some (.orderReply group member results))) ∧
   (∀ system group member, system < 65536 → group < 256 → member < 256 →
     parseUpstream (UpFrame.bytes system (.hold group member)) = some (some system, some (.hold group member))) ∧
   (∀ system converter event, system < 65536 → converter < 16777216 → event < 65536 →
     parseUpstream (UpFrame.bytes system (.purchase converter event)) =
       some (some system, some (.purchase converter event)))) ∧
  (∀ (s : State) (system : Nat), system < 65536 →
     (∀ group member power (level : Int), group < 256 → member < 256 → power < 256 → -32768 ≤ level → level ≤ 32767 →
       exec (.unknownKindFrame (some (UpFrame.bytes system (.pollReply group member level power)))) s =
         exec (.pollReply system group member level power) s) ∧
     (∀ group member, group < 256 → member < 256 →
       exec (.unknownKindFrame (some (UpFrame.bytes system (.hold group member)))) s = exec (.hold system group member) s) ∧
     (∀ group member (results : List (Nat × Nat)), group < 256 → member < 256 → results.length < 256 →
       (∀ r, r ∈ results → r.1 < 256 ∧ r.2 < 256) →
       exec (.unknownKindFrame (some (UpFrame.bytes system (.orderReply group member results)))) s =
         exec (.orderReply system group member results) s) ∧
     (∀ converter event, converter < 16777216 → event < 65536 →
       exec (.unknownKindFrame (some (UpFrame.bytes system (.purchase converter event)))) s =
         exec (.purchase system converter event) s))

/-- The checks of an arriving frame, in order: a wrong check sequence is counted BAD CHECK; another system code, or any while
the code is unset, WRONG SYSTEM; an unknown kind, a wrong length or a field its kind does not allow, MALFORMED (R128, R134,
R194). A frame that ends during a restart, or that began before the completion of one, is discarded and counted by nothing
(R129, R140, R141); that the form of UNKNOWN_KIND_FRAME without bytes is a frame's first bit is the model's choice (entry 12).
A reply that passes them and does not match the open window is counted LATE where the late mark holds its kind and address,
and UNMATCHED otherwise (R133). A discard changes nothing else. What a frame too short for its check sequence or its system
code is counted as is DEDUCED (entry 13). -/
def Obligations.FrameChecks : Prop :=
  (∀ s : State, exec (.unknownKindFrame none) s = .next { s with up := { s.up with
     reception := if s.up.reception = .idle then (if s.restarting = true then .abandoned else .taking)
                  else s.up.reception } }) ∧
  (∀ (s : State) (c : Instr),
     (∃ bytes, c = .unknownKindFrame (some bytes)) ∨
     (∃ system group member level power, c = .pollReply system group member level power) ∨
     (∃ system group member results, c = .orderReply system group member results) ∨
     (∃ system group member, c = .hold system group member) ∨
     (∃ system converter event, c = .purchase system converter event) →
     (s.restarting = true ∨ s.up.reception = .abandoned →
       exec c s = .next { s with up := { s.up with reception := .idle } }) ∧
     (s.up.reception = .taking → exec c s = exec c { s with up := { s.up with reception := .idle } })) ∧
  (∀ (s : State) (bytes : List Byte), s.takesFrames →
     (parseUpstream bytes = none →
       exec (.unknownKindFrame (some bytes)) s = .next { s with up := { s.up with counters :=
         { s.up.counters with badCheck := min 65535 (s.up.counters.badCheck + 1) } } }) ∧
     (∀ code f, parseUpstream bytes = some (some code, f) → s.systemCode ≠ some code →
       exec (.unknownKindFrame (some bytes)) s = .next { s with up := { s.up with counters :=
         { s.up.counters with wrongSystem := min 65535 (s.up.counters.wrongSystem + 1) } } }) ∧
     (∀ code, parseUpstream bytes = some (some code, none) → s.systemCode = some code →
       exec (.unknownKindFrame (some bytes)) s = .next { s with up := { s.up with counters :=
         { s.up.counters with malformed := min 65535 (s.up.counters.malformed + 1) } } }) ∧
     (∀ code f, parseUpstream bytes = some (some code, some f) → s.systemCode = some code →
       f.valid = false →
       exec (.unknownKindFrame (some bytes)) s = .next { s with up := { s.up with counters :=
         { s.up.counters with malformed := min 65535 (s.up.counters.malformed + 1) } } })) ∧
  (∀ (s : State) (c : Instr) (kind : WindowKind) (group member : Nat), s.takesFrames →
     s.systemCode.isSome = true → group ≤ 62 →
     ((∃ level power, c = .pollReply (s.systemCode.getD 0) group member level power ∧ power ≤ 1 ∧ kind = .poll) ∨
      (∃ results : List (Nat × Nat), c = .orderReply (s.systemCode.getD 0) group member results ∧ results.length ≤ 8 ∧
        (∀ r, r ∈ results → r.1 ≤ 7 ∧ r.2 ≤ 1) ∧ kind = .order) ∨
      (c = .hold (s.systemCode.getD 0) group member ∧ kind = .order)) →
     (∀ w, s.up.window = some w → ¬ (w.kind = kind ∧ w.group = group ∧ w.member = member)) →
     (s.up.late = some { kind := kind, group := group, member := member } →
       exec c s = .next { s with up := { s.up with counters :=
         { s.up.counters with late := min 65535 (s.up.counters.late + 1) } } }) ∧
     (s.up.late ≠ some { kind := kind, group := group, member := member } →
       exec c s = .next { s with up := { s.up with counters :=
         { s.up.counters with unmatched := min 65535 (s.up.counters.unmatched + 1) } } }))

/-- An impulse purchase by the checks of R135 in their order: accepted, accepted again without a charge, declined with the
reason of the first check that fails, or discarded (R135, R136, R137, R138). -/
def Obligations.PurchaseTaken : Prop :=
  ∀ (s : State) (address event slot : Nat) (r : Subscriber), s.takesFrames → s.systemCode.isSome = true →
    1 ≤ address → 1 ≤ event → s.lineUp.offers.wf = true → s.slot? slot = some r →
    let c := Instr.purchase (s.systemCode.getD 0) address event
    (s.subs.converters.get? address = none → exec c s = .next { s with up := { s.up with counters :=
      { s.up.counters with unknownConverter := min 65535 (s.up.counters.unknownConverter + 1) } } }) ∧
    (s.subs.converters.get? address = some slot →
      (r.state ≠ .active → exec c s = .next (s.offer (.decline slot event .notActive))) ∧
      (r.state = .active → event ∈ r.purchases → exec c s = .next (s.report slot)) ∧
      (r.state = .active → event ∉ r.purchases → (∀ k o, s.lineUp.offers.get? k = some o → o.event ≠ event) →
        exec c s = .next (s.offer (.decline slot event .noOffer))) ∧
      (∀ k o, r.state = .active → event ∉ r.purchases → s.lineUp.offers.get? k = some o → o.event = event →
        (∀ j x, s.lineUp.offers.get? j = some x → x.event = event → j = k) →
        (s.clock.minute < o.opens ∨ o.closes ≤ s.clock.minute →
          exec c s = .next (s.offer (.decline slot event .window))) ∧
        (o.opens ≤ s.clock.minute → s.clock.minute < o.closes →
          (hasTier r.tiers o.tier = false → exec c s = .next (s.offer (.decline slot event .tier))) ∧
          (hasTier r.tiers o.tier = true →
            (4 ≤ r.purchases.length → exec c s = .next (s.offer (.decline slot event .listFull))) ∧
            (r.purchases.length < 4 → r.ceiling < r.purchaseTotal + o.price →
              exec c s = .next (s.offer (.decline slot event .ceiling))) ∧
            (r.purchases.length < 4 → r.purchaseTotal + o.price ≤ r.ceiling →
              ∃ t, exec c s = .next t ∧ t.slot? slot = some
                { r with purchases := r.purchases ++ [event], purchaseTotal := r.purchaseTotal + o.price
                         purchaseCount := min 255 (r.purchaseCount + 1) } ∧
                (∀ n, n ≠ slot → t.slot? n = s.slot? n) ∧ t.down = (s.report slot).down ∧
                t = { s with subs := { s.subs with slots := t.subs.slots }, down := t.down })))))

-- the Accrual Engine

/-- ACCRUAL_VISIT: the lowest non-vacant slot at or above the position is visited; its list is pruned, and its accrual fields
follow the lit case, the dark case or the not-eligible case (R147, R148, R149, R150), the saturated mark being set by the
addition that brings the accumulator to its greatest value (R152); no other record changes, and a record with a converter
whose list lost an event is reported (R153). That one command visits the lowest non-vacant slot at or above the position, and
leaves the position one past it, is the model's choice (entry 6). -/
def Obligations.AccrualVisit : Prop :=
  ∀ (s : State) (tick n : Nat) (r : Subscriber), s.accrual.walk = .accrual tick → s.subs.slots.wf = true →
    s.slot? n = some r → s.accrual.position ≤ n →
    (∀ k, s.accrual.position ≤ k → k < n → s.slot? k = none) →
    ∃ t r', exec .accrualVisit s = .next t ∧ t.slot? n = some r' ∧ (∀ k, k ≠ n → t.slot? k = s.slot? k) ∧
      t.accrual = { s.accrual with position := n + 1 } ∧
      r'.purchases = r.purchases.filter s.isLive ∧
      (s.eligible r = true → s.tapDark r = false →
        r'.held = 0 ∧ r'.spell = 0 ∧ r'.credited = r.credited ∧
        (r.spell = 0 ∨ s.accrual.threshold ≤ r.spell →
          r'.accumulator = min 281474976710655 (r.accumulator + r.weight) ∧ r'.charged = min 65535 (r.charged + 1) ∧
          r'.saturated = (r.saturated || decide (281474976710655 ≤ r.accumulator + r.weight))) ∧
        (0 < r.spell → r.spell < s.accrual.threshold →
          r'.accumulator = min 281474976710655 (r.accumulator + r.held + r.weight) ∧
          r'.charged = min 65535 (r.charged + r.spell + 1) ∧
          r'.saturated = (r.saturated || decide (281474976710655 ≤ r.accumulator + r.held + r.weight)))) ∧
      (s.eligible r = true → s.tapDark r = true →
        let spell := min 65535 (r.spell + 1)
        r'.spell = spell ∧ r'.accumulator = r.accumulator ∧ r'.saturated = r.saturated ∧ r'.charged = r.charged ∧
        (spell < s.accrual.threshold →
          r'.held = min 281474976710655 (r.held + r.weight) ∧ r'.credited = r.credited) ∧
        (spell = s.accrual.threshold → r'.held = 0 ∧ r'.credited = min 65535 (r.credited + spell)) ∧
        (s.accrual.threshold < spell → r'.held = r.held ∧ r'.credited = min 65535 (r.credited + 1))) ∧
      (s.eligible r = false →
        (r.spell = 0 → r' = { r with purchases := r'.purchases }) ∧
        (0 < r.spell → r'.held = 0 ∧ r'.spell = 0 ∧ r'.credited = r.credited ∧
          (r.spell < s.accrual.threshold → r'.accumulator = min 281474976710655 (r.accumulator + r.held) ∧
            r'.charged = min 65535 (r.charged + r.spell) ∧
            r'.saturated = (r.saturated || decide (281474976710655 ≤ r.accumulator + r.held))) ∧
          (s.accrual.threshold ≤ r.spell → r'.accumulator = r.accumulator ∧ r'.charged = r.charged ∧
            r'.saturated = r.saturated))) ∧
      (r.saturated = false → r'.saturated = true →
        t.notices = s.notices.post s.clock.minute (.saturated r.periodTag tick) (.slot n)) ∧
      (r'.saturated = r.saturated → t.notices = s.notices) ∧
      r' = { r with purchases := r'.purchases, accumulator := r'.accumulator, saturated := r'.saturated, held := r'.held
                    spell := r'.spell, charged := r'.charged, credited := r'.credited } ∧
      (r.converter.isSome = true → r'.purchases ≠ r.purchases → t.down = (s.report n).down) ∧
      (r.converter = none ∨ r'.purchases = r.purchases → t.down = s.down) ∧
      t = { s with subs := { s.subs with slots := t.subs.slots }, accrual := t.accrual, down := t.down
                   notices := t.notices }

/-- Closing a record: its five figures in a new statement, or added to the one it holds, each sum stopping at its maximum, and
the closed period's fields cleared with the spell carried (R164, R165). The accumulator of as many accruals of one rate's
per-tick rate as a period has ticks rounds to that rate (R142, R164). A record of up to 32 tiers that begins a period with an
empty accumulator and no spell, whose taps are lit at every visit but for dark spells shorter than the threshold that end
within the period, closes to exactly the sum of its tiers' rates (R158). -/
def Obligations.Closing : Prop :=
  (∀ r : Subscriber,
     (r.statement = none → r.close.statement = some
       { service := (r.accumulator + 8388608) / 16777216, purchases := r.purchaseTotal, purchaseCount := r.purchaseCount
         charged := r.charged, credited := r.credited, merged := 1, closing := r.periodTag }) ∧
     (∀ st, r.statement = some st → r.close.statement = some
       { service := min 4294967295 (st.service + (r.accumulator + 8388608) / 16777216)
         purchases := min 4294967295 (st.purchases + r.purchaseTotal)
         purchaseCount := min 255 (st.purchaseCount + r.purchaseCount)
         charged := min 65535 (st.charged + r.charged), credited := min 65535 (st.credited + r.credited)
         merged := min 15 (st.merged + 1), closing := r.periodTag }) ∧
     r.close = { r with statement := r.close.statement, accumulator := 0, saturated := false, purchaseTotal := 0
                        purchaseCount := 0, charged := 0, credited := 0 }) ∧
  (∀ (rate days : Nat), rate ≤ 65535 → 28 ≤ days → days ≤ 31 →
     serviceCents (ticksOf days * perTick rate days) = rate ∧ ticksOf days * perTick rate days < 281474976710655) ∧
  (∀ (r : Subscriber) (rates : List Nat) (visits : List Bool) (days threshold : Nat),
     rates.length ≤ 32 → (∀ x, x ∈ rates → x ≤ 65535) → 28 ≤ days → days ≤ 31 →
     r.accumulator = 0 → r.held = 0 → r.spell = 0 → r.weight = (rates.map (fun x => perTick x days)).sum →
     visits.length = ticksOf days → visits.getLast? = some true →
     (∀ before run after, visits = before ++ run ++ after → run ≠ [] → (∀ b, b ∈ run → b = false) →
       run.length < threshold) →
     let last := visits.foldl (fun x lit => if lit then x.visitLit threshold else x.visitDark threshold) r
     last.saturated = r.saturated ∧ last.spell = 0 ∧ last.credited = r.credited ∧
     (r.statement = none → ∃ st, last.close.statement = some st ∧ st.service = rates.sum ∧
       st.charged = min 65535 (r.charged + ticksOf days)) ∧
     (∀ old, r.statement = some old → ∃ st, last.close.statement = some st ∧
       st.service = min 4294967295 (old.service + rates.sum)))

/-- PERIOD_VISIT: the visited record is pruned, closed where it is of a closed period, brought under the new threshold and
into the new period with its weight by the current rates; no other record changes, and a record with a converter whose list
lost an event is reported (R153, R156, R162, R163, R165). That one command visits the lowest non-vacant slot at or above the
position, and leaves the position one past it, is the model's choice (entry 6). -/
def Obligations.PeriodVisit : Prop :=
  ∀ (s : State) (previous closed merged n : Nat) (closing : Bool) (r : Subscriber), s.restarting = false →
    s.accrual.walk = .period previous closing closed merged → s.subs.slots.wf = true → s.slot? n = some r →
    s.accrual.position ≤ n → (∀ k, s.accrual.position ≤ k → k < n → s.slot? k = none) →
    ∃ t r', exec .periodVisit s = .next t ∧ t.slot? n = some r' ∧ (∀ k, k ≠ n → t.slot? k = s.slot? k) ∧
      t.accrual.position = n + 1 ∧
      r'.purchases = r.purchases.filter s.isLive ∧ r'.periodTag = s.accrual.sequence ∧
      r'.weight = s.lineUp.currentWeight r.tiers ∧
      (closing = true → r.periodTag ≠ s.accrual.sequence →
        r'.statement = some r.closedStatement ∧ r'.accumulator = 0 ∧ r'.saturated = false ∧ r'.purchaseTotal = 0 ∧
        r'.purchaseCount = 0 ∧ r'.charged = 0 ∧
        t.accrual.walk = .period previous closing (closed + 1) (if r.statement.isSome then merged + 1 else merged)) ∧
      (closing = false ∨ r.periodTag = s.accrual.sequence →
        r'.statement = r.statement ∧ r'.accumulator = r.accumulator ∧ r'.saturated = r.saturated ∧
        r'.purchaseTotal = r.purchaseTotal ∧ r'.purchaseCount = r.purchaseCount ∧ r'.charged = r.charged ∧
        t.accrual.walk = s.accrual.walk) ∧
      (r.spell = 0 → r'.spell = 0 ∧ r'.held = r.held) ∧
      (0 < r.spell → r.spell < previous → r.spell < s.accrual.threshold → r'.spell = r.spell ∧ r'.held = r.held) ∧
      (0 < r.spell → r.spell < previous → s.accrual.threshold ≤ r.spell → r'.spell = r.spell ∧ r'.held = 0 ∧
        (closing = true → r.periodTag ≠ s.accrual.sequence → r'.credited = min 65535 r.spell)) ∧
      (0 < r.spell → previous ≤ r.spell → r'.held = 0 ∧ r'.spell = max r.spell s.accrual.threshold) ∧
      (let kept := if closing = true ∧ r.periodTag ≠ s.accrual.sequence then 0 else r.credited
       r'.credited = (if 0 < r.spell ∧ r.spell < previous ∧ s.accrual.threshold ≤ r.spell then min 65535 (kept + r.spell)
                      else kept)) ∧
      t.accrual = { s.accrual with position := n + 1, walk := t.accrual.walk } ∧
      r'.state = r.state ∧ r'.account = r.account ∧ r'.converter = r.converter ∧ r'.port = r.port ∧
      r'.tiers = r.tiers ∧ r'.ceiling = r.ceiling ∧
      (r.converter.isSome = true → r'.purchases ≠ r.purchases → t.down = (s.report n).down) ∧
      (r.converter = none ∨ r'.purchases = r.purchases → t.down = s.down) ∧
      t = { s with subs := { s.subs with slots := t.subs.slots }, accrual := t.accrual, down := t.down
                   notices := t.notices } ∧ t.notices = s.notices

/-- ACCRUAL_WALK_END and PERIOD_WALK_END: a walk with no slot left ends, a period walk with PERIOD DONE, and the next walk is
chosen: the pending period walk with its changeover, the pending tick, or none (R146, R161, R166). That the end is taken where
no non-vacant slot is left at or above the position is the model's choice (entry 6). -/
def Obligations.AccrualWalksEnd : Prop :=
  (∀ (s : State) (tick : Nat), s.accrual.walk = .accrual tick → s.nextSlot s.accrual.position = none →
    ∃ t, exec .accrualWalkEnd s = .next t ∧
      t = { s with accrual := t.accrual, lineUp := { s.lineUp with tiers := t.lineUp.tiers } } ∧
      (∀ days, s.accrual.pendingPeriod = some days →
        t.accrual = { s.accrual with
          length := some days, sequence := (s.accrual.sequence + 1) % 256, threshold := s.accrual.staged
          walk := .period s.accrual.threshold s.accrual.length.isSome 0 0, position := 0, pendingPeriod := none } ∧
        (∀ n e, s.lineUp.tiers.get? n = some e → t.lineUp.tiers.get? n = some
          { e with currentRate := e.nextRate, previousQ := e.currentQ
                   currentQ := e.nextRate * 16777216 / (96 * days) })) ∧
      (s.accrual.pendingPeriod = none → ∀ next, s.accrual.pendingTick = some next →
        t = { s with accrual := { s.accrual with pendingTick := none, walk := .accrual next, position := 0 } }) ∧
      (s.accrual.pendingPeriod = none → s.accrual.pendingTick = none →
        t = { s with accrual := { s.accrual with walk := .none, position := 0 } })) ∧
  (∀ (s : State) (previous closed merged : Nat) (closing : Bool), s.restarting = false →
    s.accrual.walk = .period previous closing closed merged → s.nextSlot s.accrual.position = none →
    s.accrual.pendingPeriod = none →
    ∃ t, exec .periodWalkEnd s = .next t ∧ t.notices = s.notices.post s.clock.minute
        (.periodDone s.accrual.sequence (s.accrual.length.getD 0) closed merged) .none ∧
      (s.accrual.pendingTick = none → t.accrual = { s.accrual with walk := .none, position := 0 }) ∧
      (∀ next, s.accrual.pendingTick = some next →
        t.accrual = { s.accrual with pendingTick := none, walk := .accrual next, position := 0 }) ∧
      t = { s with notices := t.notices, accrual := t.accrual })

/-- START PERIOD: the changeover at once with no walk running, pending behind an accrual walk, BUSY behind a period walk or
another START PERIOD; SET THRESHOLD stages (R155, R160, R161). -/
def Obligations.StartPeriod : Prop :=
  ∀ (tag days : Nat) (s : State), s.takesRequests → 28 ≤ days → days ≤ 31 →
    (s.clock.isSet = true → s.accrual.pendingPeriod = none → s.accrual.walk = .none →
      ∃ t, exec (.startPeriod tag days) s = .next t ∧
        t.response = some { okay tag (.period ((s.accrual.sequence + 1) % 256) days true) with status := .accepted } ∧
        t.accrual = { s.accrual with
          length := some days, sequence := (s.accrual.sequence + 1) % 256, threshold := s.accrual.staged
          walk := .period s.accrual.threshold s.accrual.length.isSome 0 0, position := 0 } ∧
        (∀ n e, s.lineUp.tiers.get? n = some e → t.lineUp.tiers.get? n = some
          { e with currentRate := e.nextRate, previousQ := e.currentQ
                   currentQ := e.nextRate * 16777216 / (96 * days) }) ∧
        t = { s with response := t.response, accrual := t.accrual
                     lineUp := { s.lineUp with tiers := t.lineUp.tiers } }) ∧
    (∀ tick, s.clock.isSet = true → s.accrual.pendingPeriod = none → s.accrual.walk = .accrual tick →
      exec (.startPeriod tag days) s = .next { s with
        response := some { okay tag (.period ((s.accrual.sequence + 1) % 256) days false) with status := .accepted }
        accrual := { s.accrual with pendingPeriod := some days } }) ∧
    (s.clock.isSet = true → s.accrual.pendingPeriod.isSome = true ∨ s.accrual.walk.previous?.isSome = true →
      exec (.startPeriod tag days) s = .next (s.answering (refused tag .busy))) ∧
    (s.clock.isSet = false → exec (.startPeriod tag days) s = .next (s.answering (refused tag .unset))) ∧
    (∀ ticks, ticks ≤ 192 → exec (.setThreshold tag ticks) s = .next { s with
      response := some (okay tag (.thresholds s.accrual.threshold ticks))
      accrual := { s.accrual with staged := ticks } })

-- the Notice Queue

/-- A post coalesces into the held notice of its family and subject, in its place; otherwise it is appended, or at a full
queue removes the oldest of the lowest priority below its own, or is discarded, each loss counted (R172, R173). -/
def Obligations.NoticePosted : Prop :=
  ∀ (q : NoticeQueue) (minute : Nat) (body : NoticeBody) (subject : Subject),
    (∀ before n after, q.held = before ++ n :: after → n.body.family = body.family → n.subject = subject →
      (∀ m, m ∈ before → ¬ (m.body.family = body.family ∧ m.subject = subject)) →
      q.post minute body subject = { q with
        held := before ++ { n with body := body, last := minute, count := min 255 (n.count + 1) } :: after }) ∧
    ((∀ m, m ∈ q.held → ¬ (m.body.family = body.family ∧ m.subject = subject)) →
      (q.held.length < 64 → q.post minute body subject = { q with
        held := q.held ++ [{ body := body, subject := subject, first := minute, last := minute, count := 1 }] }) ∧
      (∀ before n after, 64 ≤ q.held.length → q.held = before ++ n :: after →
        n.body.priority.rank < body.priority.rank → (∀ m, m ∈ before → n.body.priority.rank < m.body.priority.rank) →
        (∀ m, m ∈ after → n.body.priority.rank ≤ m.body.priority.rank) →
        q.post minute body subject = { q with
          held := before ++ after ++ [{ body := body, subject := subject, first := minute, last := minute, count := 1 }]
          lost := min 65535 (q.lost + 1) }) ∧
      (64 ≤ q.held.length → (∀ m, m ∈ q.held → body.priority.rank ≤ m.body.priority.rank) →
        q.post minute body subject = { q with lost := min 65535 (q.lost + 1) }))

/-- TAKE NOTICE takes the oldest notice of the highest priority from its place and clears the lost-notice count; SET ALARM
LEVEL sets the level; the ALARM line is high exactly while a held notice is at or above the level (R174, R175, R176). -/
def Obligations.NoticesAndAlarm : Prop :=
  (∀ (tag : Nat) (s : State) (before after : List Notice) (n : Notice), s.takesRequests →
    s.notices.held = before ++ n :: after →
    (∀ m, m ∈ before → m.body.priority.rank < n.body.priority.rank) →
    (∀ m, m ∈ after → m.body.priority.rank ≤ n.body.priority.rank) →
    exec (.takeNotice tag) s = .next { s with
      response := some (okay tag (.notice n (before ++ after).length s.notices.lost))
      notices := { s.notices with held := before ++ after, lost := 0 } }) ∧
  (∀ (tag : Nat) (s : State), s.takesRequests → s.notices.held = [] → ∃ t, exec (.takeNotice tag) s = .next t ∧
    t.response = some { refused tag .vacant with values := .lost s.notices.lost } ∧
    t = { s with response := t.response }) ∧
  (∀ (tag : Nat) (s : State) (p : Priority), s.takesRequests → ∃ t,
    exec (.setAlarmLevel tag (match p with | .urgent => 0 | .routine => 1 | .info => 2)) s = .next t ∧
    t.notices = { s.notices with level := p } ∧ t.response = some (okay tag (.alarm s.notices.level p t.alarm)) ∧
    t = { s with response := t.response, notices := t.notices }) ∧
  (∀ s : State, s.alarm = true ↔ ∃ n, n ∈ s.notices.held ∧ s.notices.level.rank ≤ n.body.priority.rank)

-- invariants that every step keeps

/-- The tables keep their canonical form and their numbers; every queue, list and count of the blocks its limit; every record,
statement, tier, generation, offer and element its fields within their values; and the clock its fields, at every step from
every state in which they do (R1, R3, R30, R36, R48, R54, R55, R65, R92, R119, R120, R144, R170, R182). No notice stands twice
for one family and subject, and no entry twice on the Expedite List (R120, R170). -/
def Obligations.FormAndLimitsKept : Prop :=
  ∀ s t : State, s.canonical ∧ s.numbered ∧ s.limited ∧ s.ranged ∧ s.clocked → step s = .next t →
    t.canonical ∧ t.numbered ∧ t.limited ∧ t.ranged ∧ t.clocked

/-- The Account Index and the Converter Index map exactly the keys of the non-vacant records, a tap port links to a slot
exactly when the slot's record names it, and an ACTIVE or SUSPENDED record names a port, at every step (R5, R6, R7, R8); and
the tiers that channels and offers name are defined and the channels of offers IMPULSE (R34, R36, R48). -/
def Obligations.KeysAndLinksKept : Prop :=
  (∀ s t : State, s.canonical ∧ s.indexed ∧ s.linked → step s = .next t → t.indexed ∧ t.linked) ∧
  (∀ s t : State, s.canonical ∧ s.referred → step s = .next t → t.referred)

/-- Each tier's holder count is the number of records holding it, each record's tag and weight are those of its period, and
its held amount is zero whenever its spell is none or decided, at every step (R19, R33, R143, R151). -/
def Obligations.ChargesKept : Prop :=
  ∀ s t : State, s.canonical ∧ s.numbered ∧ s.counted ∧ s.tagged ∧ s.weighed ∧ s.heldRight → step s = .next t →
    t.counted ∧ t.tagged ∧ t.weighed ∧ t.heldRight

/-- The poll states, the Verify List and the poll in flight agree, at every step (R76, R77, R82); the Plant Tree stays one
tree with unique addresses (R54, R56, R57); and in it the running walk keeps its place (R68, R71) and, where the poll states
agree with the poll enables (R76), the shadow and dark flags agree with the poll states, but for the exceptions of R63. -/
def Obligations.PollsAgreeKept : Prop :=
  (∀ s t : State, s.canonical ∧ s.numbered ∧ s.pollsAgree → step s = .next t → t.pollsAgree) ∧
  (∀ s t : State, s.canonical ∧ s.numbered ∧ s.treeShaped → step s = .next t → t.treeShaped) ∧
  (∀ s t : State, s.canonical ∧ s.numbered ∧ s.treeShaped ∧ s.walkPlaced → step s = .next t → t.walkPlaced) ∧
  (∀ s t : State, s.canonical ∧ s.numbered ∧ s.pollsAgree ∧ s.treeShaped ∧ s.walkPlaced ∧ s.flagsAgree →
    step s = .next t → t.flagsAgree)

/-- The Order Queue holds at most one order for a port, and its SENT orders are exactly those of the frame in flight, at every
step (R92, R93, R98). -/
def Obligations.OrdersAgreeKept : Prop :=
  ∀ s t : State, s.ordersAgree → step s = .next t → t.ordersAgree

/-- The invariants hold right after a power-on reset. -/
def Obligations.InvariantsHoldAtReset : Prop :=
  State.reset.canonical ∧ State.reset.numbered ∧ State.reset.limited ∧ State.reset.ranged ∧ State.reset.clocked ∧
  State.reset.indexed ∧ State.reset.linked ∧ State.reset.referred ∧ State.reset.treeShaped ∧ State.reset.counted ∧
  State.reset.tagged ∧ State.reset.weighed ∧ State.reset.heldRight ∧ State.reset.pollsAgree ∧ State.reset.walkPlaced ∧
  State.reset.flagsAgree ∧ State.reset.ordersAgree
end

