-- ==== Sys2Proof/Laws/State.lean ====
section
/-! SUPPORT. What each update of one field of the state leaves in every field. -/

namespace Sys2Proof.Laws

open Sys2Proof.Machine

variable (s : State)

@[simp] theorem withResponse_response (x : Option Response) : (s.withResponse x).response = x := rfl
@[simp] theorem withResponse_select (x : Option Response) : (s.withResponse x).select = s.select := rfl
@[simp] theorem withResponse_clock (x : Option Response) : (s.withResponse x).clock = s.clock := rfl
@[simp] theorem withResponse_systemCode (x : Option Response) : (s.withResponse x).systemCode = s.systemCode := rfl
@[simp] theorem withResponse_rate (x : Option Response) : (s.withResponse x).rate = s.rate := rfl
@[simp] theorem withResponse_restarting (x : Option Response) : (s.withResponse x).restarting = s.restarting := rfl
@[simp] theorem withResponse_pinHeld (x : Option Response) : (s.withResponse x).pinHeld = s.pinHeld := rfl
@[simp] theorem withResponse_subs (x : Option Response) : (s.withResponse x).subs = s.subs := rfl
@[simp] theorem withResponse_lineUp (x : Option Response) : (s.withResponse x).lineUp = s.lineUp := rfl
@[simp] theorem withResponse_plant (x : Option Response) : (s.withResponse x).plant = s.plant := rfl
@[simp] theorem withResponse_poll (x : Option Response) : (s.withResponse x).poll = s.poll := rfl
@[simp] theorem withResponse_orders (x : Option Response) : (s.withResponse x).orders = s.orders := rfl
@[simp] theorem withResponse_down (x : Option Response) : (s.withResponse x).down = s.down := rfl
@[simp] theorem withResponse_up (x : Option Response) : (s.withResponse x).up = s.up := rfl
@[simp] theorem withResponse_accrual (x : Option Response) : (s.withResponse x).accrual = s.accrual := rfl
@[simp] theorem withResponse_notices (x : Option Response) : (s.withResponse x).notices = s.notices := rfl
@[simp] theorem withResponse_pending (x : Option Response) : (s.withResponse x).pending = s.pending := rfl

@[simp] theorem withSelect_response (x : Reception) : (s.withSelect x).response = s.response := rfl
@[simp] theorem withSelect_select (x : Reception) : (s.withSelect x).select = x := rfl
@[simp] theorem withSelect_clock (x : Reception) : (s.withSelect x).clock = s.clock := rfl
@[simp] theorem withSelect_systemCode (x : Reception) : (s.withSelect x).systemCode = s.systemCode := rfl
@[simp] theorem withSelect_rate (x : Reception) : (s.withSelect x).rate = s.rate := rfl
@[simp] theorem withSelect_restarting (x : Reception) : (s.withSelect x).restarting = s.restarting := rfl
@[simp] theorem withSelect_pinHeld (x : Reception) : (s.withSelect x).pinHeld = s.pinHeld := rfl
@[simp] theorem withSelect_subs (x : Reception) : (s.withSelect x).subs = s.subs := rfl
@[simp] theorem withSelect_lineUp (x : Reception) : (s.withSelect x).lineUp = s.lineUp := rfl
@[simp] theorem withSelect_plant (x : Reception) : (s.withSelect x).plant = s.plant := rfl
@[simp] theorem withSelect_poll (x : Reception) : (s.withSelect x).poll = s.poll := rfl
@[simp] theorem withSelect_orders (x : Reception) : (s.withSelect x).orders = s.orders := rfl
@[simp] theorem withSelect_down (x : Reception) : (s.withSelect x).down = s.down := rfl
@[simp] theorem withSelect_up (x : Reception) : (s.withSelect x).up = s.up := rfl
@[simp] theorem withSelect_accrual (x : Reception) : (s.withSelect x).accrual = s.accrual := rfl
@[simp] theorem withSelect_notices (x : Reception) : (s.withSelect x).notices = s.notices := rfl
@[simp] theorem withSelect_pending (x : Reception) : (s.withSelect x).pending = s.pending := rfl

@[simp] theorem withClock_response (x : Clock) : (s.withClock x).response = s.response := rfl
@[simp] theorem withClock_select (x : Clock) : (s.withClock x).select = s.select := rfl
@[simp] theorem withClock_clock (x : Clock) : (s.withClock x).clock = x := rfl
@[simp] theorem withClock_systemCode (x : Clock) : (s.withClock x).systemCode = s.systemCode := rfl
@[simp] theorem withClock_rate (x : Clock) : (s.withClock x).rate = s.rate := rfl
@[simp] theorem withClock_restarting (x : Clock) : (s.withClock x).restarting = s.restarting := rfl
@[simp] theorem withClock_pinHeld (x : Clock) : (s.withClock x).pinHeld = s.pinHeld := rfl
@[simp] theorem withClock_subs (x : Clock) : (s.withClock x).subs = s.subs := rfl
@[simp] theorem withClock_lineUp (x : Clock) : (s.withClock x).lineUp = s.lineUp := rfl
@[simp] theorem withClock_plant (x : Clock) : (s.withClock x).plant = s.plant := rfl
@[simp] theorem withClock_poll (x : Clock) : (s.withClock x).poll = s.poll := rfl
@[simp] theorem withClock_orders (x : Clock) : (s.withClock x).orders = s.orders := rfl
@[simp] theorem withClock_down (x : Clock) : (s.withClock x).down = s.down := rfl
@[simp] theorem withClock_up (x : Clock) : (s.withClock x).up = s.up := rfl
@[simp] theorem withClock_accrual (x : Clock) : (s.withClock x).accrual = s.accrual := rfl
@[simp] theorem withClock_notices (x : Clock) : (s.withClock x).notices = s.notices := rfl
@[simp] theorem withClock_pending (x : Clock) : (s.withClock x).pending = s.pending := rfl

@[simp] theorem withSystemCode_response (x : Option Nat) : (s.withSystemCode x).response = s.response := rfl
@[simp] theorem withSystemCode_select (x : Option Nat) : (s.withSystemCode x).select = s.select := rfl
@[simp] theorem withSystemCode_clock (x : Option Nat) : (s.withSystemCode x).clock = s.clock := rfl
@[simp] theorem withSystemCode_systemCode (x : Option Nat) : (s.withSystemCode x).systemCode = x := rfl
@[simp] theorem withSystemCode_rate (x : Option Nat) : (s.withSystemCode x).rate = s.rate := rfl
@[simp] theorem withSystemCode_restarting (x : Option Nat) : (s.withSystemCode x).restarting = s.restarting := rfl
@[simp] theorem withSystemCode_pinHeld (x : Option Nat) : (s.withSystemCode x).pinHeld = s.pinHeld := rfl
@[simp] theorem withSystemCode_subs (x : Option Nat) : (s.withSystemCode x).subs = s.subs := rfl
@[simp] theorem withSystemCode_lineUp (x : Option Nat) : (s.withSystemCode x).lineUp = s.lineUp := rfl
@[simp] theorem withSystemCode_plant (x : Option Nat) : (s.withSystemCode x).plant = s.plant := rfl
@[simp] theorem withSystemCode_poll (x : Option Nat) : (s.withSystemCode x).poll = s.poll := rfl
@[simp] theorem withSystemCode_orders (x : Option Nat) : (s.withSystemCode x).orders = s.orders := rfl
@[simp] theorem withSystemCode_down (x : Option Nat) : (s.withSystemCode x).down = s.down := rfl
@[simp] theorem withSystemCode_up (x : Option Nat) : (s.withSystemCode x).up = s.up := rfl
@[simp] theorem withSystemCode_accrual (x : Option Nat) : (s.withSystemCode x).accrual = s.accrual := rfl
@[simp] theorem withSystemCode_notices (x : Option Nat) : (s.withSystemCode x).notices = s.notices := rfl
@[simp] theorem withSystemCode_pending (x : Option Nat) : (s.withSystemCode x).pending = s.pending := rfl

@[simp] theorem withRate_response (x : Rate) : (s.withRate x).response = s.response := rfl
@[simp] theorem withRate_select (x : Rate) : (s.withRate x).select = s.select := rfl
@[simp] theorem withRate_clock (x : Rate) : (s.withRate x).clock = s.clock := rfl
@[simp] theorem withRate_systemCode (x : Rate) : (s.withRate x).systemCode = s.systemCode := rfl
@[simp] theorem withRate_rate (x : Rate) : (s.withRate x).rate = x := rfl
@[simp] theorem withRate_restarting (x : Rate) : (s.withRate x).restarting = s.restarting := rfl
@[simp] theorem withRate_pinHeld (x : Rate) : (s.withRate x).pinHeld = s.pinHeld := rfl
@[simp] theorem withRate_subs (x : Rate) : (s.withRate x).subs = s.subs := rfl
@[simp] theorem withRate_lineUp (x : Rate) : (s.withRate x).lineUp = s.lineUp := rfl
@[simp] theorem withRate_plant (x : Rate) : (s.withRate x).plant = s.plant := rfl
@[simp] theorem withRate_poll (x : Rate) : (s.withRate x).poll = s.poll := rfl
@[simp] theorem withRate_orders (x : Rate) : (s.withRate x).orders = s.orders := rfl
@[simp] theorem withRate_down (x : Rate) : (s.withRate x).down = s.down := rfl
@[simp] theorem withRate_up (x : Rate) : (s.withRate x).up = s.up := rfl
@[simp] theorem withRate_accrual (x : Rate) : (s.withRate x).accrual = s.accrual := rfl
@[simp] theorem withRate_notices (x : Rate) : (s.withRate x).notices = s.notices := rfl
@[simp] theorem withRate_pending (x : Rate) : (s.withRate x).pending = s.pending := rfl

@[simp] theorem withRestarting_response (x : Bool) : (s.withRestarting x).response = s.response := rfl
@[simp] theorem withRestarting_select (x : Bool) : (s.withRestarting x).select = s.select := rfl
@[simp] theorem withRestarting_clock (x : Bool) : (s.withRestarting x).clock = s.clock := rfl
@[simp] theorem withRestarting_systemCode (x : Bool) : (s.withRestarting x).systemCode = s.systemCode := rfl
@[simp] theorem withRestarting_rate (x : Bool) : (s.withRestarting x).rate = s.rate := rfl
@[simp] theorem withRestarting_restarting (x : Bool) : (s.withRestarting x).restarting = x := rfl
@[simp] theorem withRestarting_pinHeld (x : Bool) : (s.withRestarting x).pinHeld = s.pinHeld := rfl
@[simp] theorem withRestarting_subs (x : Bool) : (s.withRestarting x).subs = s.subs := rfl
@[simp] theorem withRestarting_lineUp (x : Bool) : (s.withRestarting x).lineUp = s.lineUp := rfl
@[simp] theorem withRestarting_plant (x : Bool) : (s.withRestarting x).plant = s.plant := rfl
@[simp] theorem withRestarting_poll (x : Bool) : (s.withRestarting x).poll = s.poll := rfl
@[simp] theorem withRestarting_orders (x : Bool) : (s.withRestarting x).orders = s.orders := rfl
@[simp] theorem withRestarting_down (x : Bool) : (s.withRestarting x).down = s.down := rfl
@[simp] theorem withRestarting_up (x : Bool) : (s.withRestarting x).up = s.up := rfl
@[simp] theorem withRestarting_accrual (x : Bool) : (s.withRestarting x).accrual = s.accrual := rfl
@[simp] theorem withRestarting_notices (x : Bool) : (s.withRestarting x).notices = s.notices := rfl
@[simp] theorem withRestarting_pending (x : Bool) : (s.withRestarting x).pending = s.pending := rfl

@[simp] theorem withPinHeld_response (x : Bool) : (s.withPinHeld x).response = s.response := rfl
@[simp] theorem withPinHeld_select (x : Bool) : (s.withPinHeld x).select = s.select := rfl
@[simp] theorem withPinHeld_clock (x : Bool) : (s.withPinHeld x).clock = s.clock := rfl
@[simp] theorem withPinHeld_systemCode (x : Bool) : (s.withPinHeld x).systemCode = s.systemCode := rfl
@[simp] theorem withPinHeld_rate (x : Bool) : (s.withPinHeld x).rate = s.rate := rfl
@[simp] theorem withPinHeld_restarting (x : Bool) : (s.withPinHeld x).restarting = s.restarting := rfl
@[simp] theorem withPinHeld_pinHeld (x : Bool) : (s.withPinHeld x).pinHeld = x := rfl
@[simp] theorem withPinHeld_subs (x : Bool) : (s.withPinHeld x).subs = s.subs := rfl
@[simp] theorem withPinHeld_lineUp (x : Bool) : (s.withPinHeld x).lineUp = s.lineUp := rfl
@[simp] theorem withPinHeld_plant (x : Bool) : (s.withPinHeld x).plant = s.plant := rfl
@[simp] theorem withPinHeld_poll (x : Bool) : (s.withPinHeld x).poll = s.poll := rfl
@[simp] theorem withPinHeld_orders (x : Bool) : (s.withPinHeld x).orders = s.orders := rfl
@[simp] theorem withPinHeld_down (x : Bool) : (s.withPinHeld x).down = s.down := rfl
@[simp] theorem withPinHeld_up (x : Bool) : (s.withPinHeld x).up = s.up := rfl
@[simp] theorem withPinHeld_accrual (x : Bool) : (s.withPinHeld x).accrual = s.accrual := rfl
@[simp] theorem withPinHeld_notices (x : Bool) : (s.withPinHeld x).notices = s.notices := rfl
@[simp] theorem withPinHeld_pending (x : Bool) : (s.withPinHeld x).pending = s.pending := rfl

@[simp] theorem withSubs_response (x : SubscriberTable) : (s.withSubs x).response = s.response := rfl
@[simp] theorem withSubs_select (x : SubscriberTable) : (s.withSubs x).select = s.select := rfl
@[simp] theorem withSubs_clock (x : SubscriberTable) : (s.withSubs x).clock = s.clock := rfl
@[simp] theorem withSubs_systemCode (x : SubscriberTable) : (s.withSubs x).systemCode = s.systemCode := rfl
@[simp] theorem withSubs_rate (x : SubscriberTable) : (s.withSubs x).rate = s.rate := rfl
@[simp] theorem withSubs_restarting (x : SubscriberTable) : (s.withSubs x).restarting = s.restarting := rfl
@[simp] theorem withSubs_pinHeld (x : SubscriberTable) : (s.withSubs x).pinHeld = s.pinHeld := rfl
@[simp] theorem withSubs_subs (x : SubscriberTable) : (s.withSubs x).subs = x := rfl
@[simp] theorem withSubs_lineUp (x : SubscriberTable) : (s.withSubs x).lineUp = s.lineUp := rfl
@[simp] theorem withSubs_plant (x : SubscriberTable) : (s.withSubs x).plant = s.plant := rfl
@[simp] theorem withSubs_poll (x : SubscriberTable) : (s.withSubs x).poll = s.poll := rfl
@[simp] theorem withSubs_orders (x : SubscriberTable) : (s.withSubs x).orders = s.orders := rfl
@[simp] theorem withSubs_down (x : SubscriberTable) : (s.withSubs x).down = s.down := rfl
@[simp] theorem withSubs_up (x : SubscriberTable) : (s.withSubs x).up = s.up := rfl
@[simp] theorem withSubs_accrual (x : SubscriberTable) : (s.withSubs x).accrual = s.accrual := rfl
@[simp] theorem withSubs_notices (x : SubscriberTable) : (s.withSubs x).notices = s.notices := rfl
@[simp] theorem withSubs_pending (x : SubscriberTable) : (s.withSubs x).pending = s.pending := rfl

@[simp] theorem withLineUp_response (x : LineUp) : (s.withLineUp x).response = s.response := rfl
@[simp] theorem withLineUp_select (x : LineUp) : (s.withLineUp x).select = s.select := rfl
@[simp] theorem withLineUp_clock (x : LineUp) : (s.withLineUp x).clock = s.clock := rfl
@[simp] theorem withLineUp_systemCode (x : LineUp) : (s.withLineUp x).systemCode = s.systemCode := rfl
@[simp] theorem withLineUp_rate (x : LineUp) : (s.withLineUp x).rate = s.rate := rfl
@[simp] theorem withLineUp_restarting (x : LineUp) : (s.withLineUp x).restarting = s.restarting := rfl
@[simp] theorem withLineUp_pinHeld (x : LineUp) : (s.withLineUp x).pinHeld = s.pinHeld := rfl
@[simp] theorem withLineUp_subs (x : LineUp) : (s.withLineUp x).subs = s.subs := rfl
@[simp] theorem withLineUp_lineUp (x : LineUp) : (s.withLineUp x).lineUp = x := rfl
@[simp] theorem withLineUp_plant (x : LineUp) : (s.withLineUp x).plant = s.plant := rfl
@[simp] theorem withLineUp_poll (x : LineUp) : (s.withLineUp x).poll = s.poll := rfl
@[simp] theorem withLineUp_orders (x : LineUp) : (s.withLineUp x).orders = s.orders := rfl
@[simp] theorem withLineUp_down (x : LineUp) : (s.withLineUp x).down = s.down := rfl
@[simp] theorem withLineUp_up (x : LineUp) : (s.withLineUp x).up = s.up := rfl
@[simp] theorem withLineUp_accrual (x : LineUp) : (s.withLineUp x).accrual = s.accrual := rfl
@[simp] theorem withLineUp_notices (x : LineUp) : (s.withLineUp x).notices = s.notices := rfl
@[simp] theorem withLineUp_pending (x : LineUp) : (s.withLineUp x).pending = s.pending := rfl

@[simp] theorem withPlant_response (x : PlantTree) : (s.withPlant x).response = s.response := rfl
@[simp] theorem withPlant_select (x : PlantTree) : (s.withPlant x).select = s.select := rfl
@[simp] theorem withPlant_clock (x : PlantTree) : (s.withPlant x).clock = s.clock := rfl
@[simp] theorem withPlant_systemCode (x : PlantTree) : (s.withPlant x).systemCode = s.systemCode := rfl
@[simp] theorem withPlant_rate (x : PlantTree) : (s.withPlant x).rate = s.rate := rfl
@[simp] theorem withPlant_restarting (x : PlantTree) : (s.withPlant x).restarting = s.restarting := rfl
@[simp] theorem withPlant_pinHeld (x : PlantTree) : (s.withPlant x).pinHeld = s.pinHeld := rfl
@[simp] theorem withPlant_subs (x : PlantTree) : (s.withPlant x).subs = s.subs := rfl
@[simp] theorem withPlant_lineUp (x : PlantTree) : (s.withPlant x).lineUp = s.lineUp := rfl
@[simp] theorem withPlant_plant (x : PlantTree) : (s.withPlant x).plant = x := rfl
@[simp] theorem withPlant_poll (x : PlantTree) : (s.withPlant x).poll = s.poll := rfl
@[simp] theorem withPlant_orders (x : PlantTree) : (s.withPlant x).orders = s.orders := rfl
@[simp] theorem withPlant_down (x : PlantTree) : (s.withPlant x).down = s.down := rfl
@[simp] theorem withPlant_up (x : PlantTree) : (s.withPlant x).up = s.up := rfl
@[simp] theorem withPlant_accrual (x : PlantTree) : (s.withPlant x).accrual = s.accrual := rfl
@[simp] theorem withPlant_notices (x : PlantTree) : (s.withPlant x).notices = s.notices := rfl
@[simp] theorem withPlant_pending (x : PlantTree) : (s.withPlant x).pending = s.pending := rfl

@[simp] theorem withPoll_response (x : PollEngine) : (s.withPoll x).response = s.response := rfl
@[simp] theorem withPoll_select (x : PollEngine) : (s.withPoll x).select = s.select := rfl
@[simp] theorem withPoll_clock (x : PollEngine) : (s.withPoll x).clock = s.clock := rfl
@[simp] theorem withPoll_systemCode (x : PollEngine) : (s.withPoll x).systemCode = s.systemCode := rfl
@[simp] theorem withPoll_rate (x : PollEngine) : (s.withPoll x).rate = s.rate := rfl
@[simp] theorem withPoll_restarting (x : PollEngine) : (s.withPoll x).restarting = s.restarting := rfl
@[simp] theorem withPoll_pinHeld (x : PollEngine) : (s.withPoll x).pinHeld = s.pinHeld := rfl
@[simp] theorem withPoll_subs (x : PollEngine) : (s.withPoll x).subs = s.subs := rfl
@[simp] theorem withPoll_lineUp (x : PollEngine) : (s.withPoll x).lineUp = s.lineUp := rfl
@[simp] theorem withPoll_plant (x : PollEngine) : (s.withPoll x).plant = s.plant := rfl
@[simp] theorem withPoll_poll (x : PollEngine) : (s.withPoll x).poll = x := rfl
@[simp] theorem withPoll_orders (x : PollEngine) : (s.withPoll x).orders = s.orders := rfl
@[simp] theorem withPoll_down (x : PollEngine) : (s.withPoll x).down = s.down := rfl
@[simp] theorem withPoll_up (x : PollEngine) : (s.withPoll x).up = s.up := rfl
@[simp] theorem withPoll_accrual (x : PollEngine) : (s.withPoll x).accrual = s.accrual := rfl
@[simp] theorem withPoll_notices (x : PollEngine) : (s.withPoll x).notices = s.notices := rfl
@[simp] theorem withPoll_pending (x : PollEngine) : (s.withPoll x).pending = s.pending := rfl

@[simp] theorem withOrders_response (x : OrderEngine) : (s.withOrders x).response = s.response := rfl
@[simp] theorem withOrders_select (x : OrderEngine) : (s.withOrders x).select = s.select := rfl
@[simp] theorem withOrders_clock (x : OrderEngine) : (s.withOrders x).clock = s.clock := rfl
@[simp] theorem withOrders_systemCode (x : OrderEngine) : (s.withOrders x).systemCode = s.systemCode := rfl
@[simp] theorem withOrders_rate (x : OrderEngine) : (s.withOrders x).rate = s.rate := rfl
@[simp] theorem withOrders_restarting (x : OrderEngine) : (s.withOrders x).restarting = s.restarting := rfl
@[simp] theorem withOrders_pinHeld (x : OrderEngine) : (s.withOrders x).pinHeld = s.pinHeld := rfl
@[simp] theorem withOrders_subs (x : OrderEngine) : (s.withOrders x).subs = s.subs := rfl
@[simp] theorem withOrders_lineUp (x : OrderEngine) : (s.withOrders x).lineUp = s.lineUp := rfl
@[simp] theorem withOrders_plant (x : OrderEngine) : (s.withOrders x).plant = s.plant := rfl
@[simp] theorem withOrders_poll (x : OrderEngine) : (s.withOrders x).poll = s.poll := rfl
@[simp] theorem withOrders_orders (x : OrderEngine) : (s.withOrders x).orders = x := rfl
@[simp] theorem withOrders_down (x : OrderEngine) : (s.withOrders x).down = s.down := rfl
@[simp] theorem withOrders_up (x : OrderEngine) : (s.withOrders x).up = s.up := rfl
@[simp] theorem withOrders_accrual (x : OrderEngine) : (s.withOrders x).accrual = s.accrual := rfl
@[simp] theorem withOrders_notices (x : OrderEngine) : (s.withOrders x).notices = s.notices := rfl
@[simp] theorem withOrders_pending (x : OrderEngine) : (s.withOrders x).pending = s.pending := rfl

@[simp] theorem withDown_response (x : Downstream) : (s.withDown x).response = s.response := rfl
@[simp] theorem withDown_select (x : Downstream) : (s.withDown x).select = s.select := rfl
@[simp] theorem withDown_clock (x : Downstream) : (s.withDown x).clock = s.clock := rfl
@[simp] theorem withDown_systemCode (x : Downstream) : (s.withDown x).systemCode = s.systemCode := rfl
@[simp] theorem withDown_rate (x : Downstream) : (s.withDown x).rate = s.rate := rfl
@[simp] theorem withDown_restarting (x : Downstream) : (s.withDown x).restarting = s.restarting := rfl
@[simp] theorem withDown_pinHeld (x : Downstream) : (s.withDown x).pinHeld = s.pinHeld := rfl
@[simp] theorem withDown_subs (x : Downstream) : (s.withDown x).subs = s.subs := rfl
@[simp] theorem withDown_lineUp (x : Downstream) : (s.withDown x).lineUp = s.lineUp := rfl
@[simp] theorem withDown_plant (x : Downstream) : (s.withDown x).plant = s.plant := rfl
@[simp] theorem withDown_poll (x : Downstream) : (s.withDown x).poll = s.poll := rfl
@[simp] theorem withDown_orders (x : Downstream) : (s.withDown x).orders = s.orders := rfl
@[simp] theorem withDown_down (x : Downstream) : (s.withDown x).down = x := rfl
@[simp] theorem withDown_up (x : Downstream) : (s.withDown x).up = s.up := rfl
@[simp] theorem withDown_accrual (x : Downstream) : (s.withDown x).accrual = s.accrual := rfl
@[simp] theorem withDown_notices (x : Downstream) : (s.withDown x).notices = s.notices := rfl
@[simp] theorem withDown_pending (x : Downstream) : (s.withDown x).pending = s.pending := rfl

@[simp] theorem withUp_response (x : Upstream) : (s.withUp x).response = s.response := rfl
@[simp] theorem withUp_select (x : Upstream) : (s.withUp x).select = s.select := rfl
@[simp] theorem withUp_clock (x : Upstream) : (s.withUp x).clock = s.clock := rfl
@[simp] theorem withUp_systemCode (x : Upstream) : (s.withUp x).systemCode = s.systemCode := rfl
@[simp] theorem withUp_rate (x : Upstream) : (s.withUp x).rate = s.rate := rfl
@[simp] theorem withUp_restarting (x : Upstream) : (s.withUp x).restarting = s.restarting := rfl
@[simp] theorem withUp_pinHeld (x : Upstream) : (s.withUp x).pinHeld = s.pinHeld := rfl
@[simp] theorem withUp_subs (x : Upstream) : (s.withUp x).subs = s.subs := rfl
@[simp] theorem withUp_lineUp (x : Upstream) : (s.withUp x).lineUp = s.lineUp := rfl
@[simp] theorem withUp_plant (x : Upstream) : (s.withUp x).plant = s.plant := rfl
@[simp] theorem withUp_poll (x : Upstream) : (s.withUp x).poll = s.poll := rfl
@[simp] theorem withUp_orders (x : Upstream) : (s.withUp x).orders = s.orders := rfl
@[simp] theorem withUp_down (x : Upstream) : (s.withUp x).down = s.down := rfl
@[simp] theorem withUp_up (x : Upstream) : (s.withUp x).up = x := rfl
@[simp] theorem withUp_accrual (x : Upstream) : (s.withUp x).accrual = s.accrual := rfl
@[simp] theorem withUp_notices (x : Upstream) : (s.withUp x).notices = s.notices := rfl
@[simp] theorem withUp_pending (x : Upstream) : (s.withUp x).pending = s.pending := rfl

@[simp] theorem withAccrual_response (x : Accrual) : (s.withAccrual x).response = s.response := rfl
@[simp] theorem withAccrual_select (x : Accrual) : (s.withAccrual x).select = s.select := rfl
@[simp] theorem withAccrual_clock (x : Accrual) : (s.withAccrual x).clock = s.clock := rfl
@[simp] theorem withAccrual_systemCode (x : Accrual) : (s.withAccrual x).systemCode = s.systemCode := rfl
@[simp] theorem withAccrual_rate (x : Accrual) : (s.withAccrual x).rate = s.rate := rfl
@[simp] theorem withAccrual_restarting (x : Accrual) : (s.withAccrual x).restarting = s.restarting := rfl
@[simp] theorem withAccrual_pinHeld (x : Accrual) : (s.withAccrual x).pinHeld = s.pinHeld := rfl
@[simp] theorem withAccrual_subs (x : Accrual) : (s.withAccrual x).subs = s.subs := rfl
@[simp] theorem withAccrual_lineUp (x : Accrual) : (s.withAccrual x).lineUp = s.lineUp := rfl
@[simp] theorem withAccrual_plant (x : Accrual) : (s.withAccrual x).plant = s.plant := rfl
@[simp] theorem withAccrual_poll (x : Accrual) : (s.withAccrual x).poll = s.poll := rfl
@[simp] theorem withAccrual_orders (x : Accrual) : (s.withAccrual x).orders = s.orders := rfl
@[simp] theorem withAccrual_down (x : Accrual) : (s.withAccrual x).down = s.down := rfl
@[simp] theorem withAccrual_up (x : Accrual) : (s.withAccrual x).up = s.up := rfl
@[simp] theorem withAccrual_accrual (x : Accrual) : (s.withAccrual x).accrual = x := rfl
@[simp] theorem withAccrual_notices (x : Accrual) : (s.withAccrual x).notices = s.notices := rfl
@[simp] theorem withAccrual_pending (x : Accrual) : (s.withAccrual x).pending = s.pending := rfl

@[simp] theorem withNotices_response (x : NoticeQueue) : (s.withNotices x).response = s.response := rfl
@[simp] theorem withNotices_select (x : NoticeQueue) : (s.withNotices x).select = s.select := rfl
@[simp] theorem withNotices_clock (x : NoticeQueue) : (s.withNotices x).clock = s.clock := rfl
@[simp] theorem withNotices_systemCode (x : NoticeQueue) : (s.withNotices x).systemCode = s.systemCode := rfl
@[simp] theorem withNotices_rate (x : NoticeQueue) : (s.withNotices x).rate = s.rate := rfl
@[simp] theorem withNotices_restarting (x : NoticeQueue) : (s.withNotices x).restarting = s.restarting := rfl
@[simp] theorem withNotices_pinHeld (x : NoticeQueue) : (s.withNotices x).pinHeld = s.pinHeld := rfl
@[simp] theorem withNotices_subs (x : NoticeQueue) : (s.withNotices x).subs = s.subs := rfl
@[simp] theorem withNotices_lineUp (x : NoticeQueue) : (s.withNotices x).lineUp = s.lineUp := rfl
@[simp] theorem withNotices_plant (x : NoticeQueue) : (s.withNotices x).plant = s.plant := rfl
@[simp] theorem withNotices_poll (x : NoticeQueue) : (s.withNotices x).poll = s.poll := rfl
@[simp] theorem withNotices_orders (x : NoticeQueue) : (s.withNotices x).orders = s.orders := rfl
@[simp] theorem withNotices_down (x : NoticeQueue) : (s.withNotices x).down = s.down := rfl
@[simp] theorem withNotices_up (x : NoticeQueue) : (s.withNotices x).up = s.up := rfl
@[simp] theorem withNotices_accrual (x : NoticeQueue) : (s.withNotices x).accrual = s.accrual := rfl
@[simp] theorem withNotices_notices (x : NoticeQueue) : (s.withNotices x).notices = x := rfl
@[simp] theorem withNotices_pending (x : NoticeQueue) : (s.withNotices x).pending = s.pending := rfl

@[simp] theorem withPending_response (x : List Instr) : (s.withPending x).response = s.response := rfl
@[simp] theorem withPending_select (x : List Instr) : (s.withPending x).select = s.select := rfl
@[simp] theorem withPending_clock (x : List Instr) : (s.withPending x).clock = s.clock := rfl
@[simp] theorem withPending_systemCode (x : List Instr) : (s.withPending x).systemCode = s.systemCode := rfl
@[simp] theorem withPending_rate (x : List Instr) : (s.withPending x).rate = s.rate := rfl
@[simp] theorem withPending_restarting (x : List Instr) : (s.withPending x).restarting = s.restarting := rfl
@[simp] theorem withPending_pinHeld (x : List Instr) : (s.withPending x).pinHeld = s.pinHeld := rfl
@[simp] theorem withPending_subs (x : List Instr) : (s.withPending x).subs = s.subs := rfl
@[simp] theorem withPending_lineUp (x : List Instr) : (s.withPending x).lineUp = s.lineUp := rfl
@[simp] theorem withPending_plant (x : List Instr) : (s.withPending x).plant = s.plant := rfl
@[simp] theorem withPending_poll (x : List Instr) : (s.withPending x).poll = s.poll := rfl
@[simp] theorem withPending_orders (x : List Instr) : (s.withPending x).orders = s.orders := rfl
@[simp] theorem withPending_down (x : List Instr) : (s.withPending x).down = s.down := rfl
@[simp] theorem withPending_up (x : List Instr) : (s.withPending x).up = s.up := rfl
@[simp] theorem withPending_accrual (x : List Instr) : (s.withPending x).accrual = s.accrual := rfl
@[simp] theorem withPending_notices (x : List Instr) : (s.withPending x).notices = s.notices := rfl
@[simp] theorem withPending_pending (x : List Instr) : (s.withPending x).pending = x := rfl

end Sys2Proof.Laws
end

