-- ==== Sys2Proof/Laws/Table.lean ====
section
/-! SUPPORT. Reading a table after each of its operations, and the canonical form that each of them keeps. -/

namespace Sys2Proof.Machine

variable {α : Type}

-- lists of pairs

theorem lookupIn_insertIn_same (k : Nat) (v : α) (l : List (Nat × α)) : lookupIn k (insertIn k v l) = some v := by
  induction l with
  | nil => simp [insertIn, lookupIn]
  | cons p r ih =>
    obtain ⟨j, w⟩ := p
    simp only [insertIn]
    split
    · simp [lookupIn]
    · split
      · simp [lookupIn]
      · rename_i h1 h2
        simp only [lookupIn]
        rw [if_neg (fun h => h2 h.symm)]
        exact ih

theorem lookupIn_insertIn_other {k n : Nat} (v : α) (l : List (Nat × α)) (h : n ≠ k) :
    lookupIn n (insertIn k v l) = lookupIn n l := by
  induction l with
  | nil => simp [insertIn, lookupIn, Ne.symm h]
  | cons p r ih =>
    obtain ⟨j, w⟩ := p
    simp only [insertIn]
    split
    · simp [lookupIn, Ne.symm h]
    · split
      · rename_i _ h2
        simp [lookupIn, ← h2, Ne.symm h]
      · simp only [lookupIn, ih]

theorem lookupIn_filter_same (k : Nat) (l : List (Nat × α)) :
    lookupIn k (l.filter (fun p => p.1 != k)) = none := by
  induction l with
  | nil => simp [lookupIn]
  | cons p r ih =>
    obtain ⟨j, w⟩ := p
    by_cases h : j = k
    · simp [h, ih]
    · simp [h, lookupIn, ih]

theorem lookupIn_filter_other {k n : Nat} (l : List (Nat × α)) (h : n ≠ k) :
    lookupIn n (l.filter (fun p => p.1 != k)) = lookupIn n l := by
  induction l with
  | nil => simp [lookupIn]
  | cons p r ih =>
    obtain ⟨j, w⟩ := p
    by_cases hj : j = k
    · simp [hj, ih, lookupIn, Ne.symm h]
    · by_cases hn : j = n <;> simp [hj, hn, lookupIn, ih, h]

theorem lookupIn_map (f : Nat → α → α) (n : Nat) (l : List (Nat × α)) :
    lookupIn n (l.map (fun p => (p.1, f p.1 p.2))) = (lookupIn n l).map (f n) := by
  induction l with
  | nil => simp [lookupIn]
  | cons p r ih =>
    obtain ⟨j, w⟩ := p
    by_cases h : j = n
    · simp [lookupIn, h]
    · simp [lookupIn, h, ih]

theorem mem_of_lookupIn {n : Nat} {v : α} {l : List (Nat × α)} (h : lookupIn n l = some v) : (n, v) ∈ l := by
  induction l with
  | nil => simp [lookupIn] at h
  | cons p r ih =>
    obtain ⟨j, w⟩ := p
    by_cases hj : j = n
    · simp [lookupIn, hj] at h
      simp [hj, h]
    · simp [lookupIn, hj] at h
      exact List.mem_cons_of_mem _ (ih h)

-- the canonical form of a list of pairs

theorem rising_weaken {a b : Nat} {l : List (Nat × α)} (hab : a ≤ b) (h : risingFrom (some b) l = true) :
    risingFrom (some a) l = true := by
  cases l with
  | nil => rfl
  | cons p r =>
    simp only [risingFrom, Bool.and_eq_true, decide_eq_true_eq] at h ⊢
    exact ⟨Nat.lt_of_le_of_lt hab h.1, h.2⟩

theorem rising_forget {b : Option Nat} {l : List (Nat × α)} (h : risingFrom b l = true) : risingFrom none l = true := by
  cases b with
  | none => exact h
  | some b =>
    cases l with
    | nil => rfl
    | cons p r =>
      simp only [risingFrom, Bool.and_eq_true] at h ⊢
      exact h.2

theorem rising_above {b : Nat} {l : List (Nat × α)} (h : risingFrom (some b) l = true) :
    ∀ p, p ∈ l → b < p.1 := by
  induction l generalizing b with
  | nil => simp
  | cons q r ih =>
    simp only [risingFrom, Bool.and_eq_true, decide_eq_true_eq] at h
    intro p hp
    rcases List.mem_cons.mp hp with rfl | hp
    · exact h.1
    · exact Nat.lt_trans h.1 (ih h.2 p hp)

theorem rising_insertIn {b k : Nat} (v : α) {l : List (Nat × α)} (h : risingFrom (some b) l = true) (hb : b < k) :
    risingFrom (some b) (insertIn k v l) = true := by
  induction l generalizing b with
  | nil => simp [insertIn, risingFrom, hb]
  | cons q r ih =>
    obtain ⟨j, w⟩ := q
    simp only [risingFrom, Bool.and_eq_true, decide_eq_true_eq] at h
    simp only [insertIn]
    split
    · rename_i hk
      simp [risingFrom, hb, hk, h.2]
    · split
      · rename_i _ hk
        subst hk
        simp [risingFrom, hb, h.2]
      · rename_i h1 h2
        simp only [risingFrom, Bool.and_eq_true, decide_eq_true_eq]
        exact ⟨h.1, ih h.2 (by omega)⟩

theorem rising_insertIn_none (k : Nat) (v : α) {l : List (Nat × α)} (h : risingFrom none l = true) :
    risingFrom none (insertIn k v l) = true := by
  cases l with
  | nil => simp [insertIn, risingFrom]
  | cons q r =>
    obtain ⟨j, w⟩ := q
    simp only [risingFrom] at h
    simp only [insertIn]
    split
    · rename_i hk
      simp [risingFrom, hk, h]
    · split
      · rename_i _ hk
        subst hk
        simpa [risingFrom] using h
      · simp only [risingFrom]
        exact rising_insertIn v h (by omega)

theorem rising_filter {b : Nat} (f : Nat × α → Bool) {l : List (Nat × α)} (h : risingFrom (some b) l = true) :
    risingFrom (some b) (l.filter f) = true := by
  induction l generalizing b with
  | nil => rfl
  | cons q r ih =>
    simp only [risingFrom, Bool.and_eq_true, decide_eq_true_eq] at h
    by_cases hf : f q = true
    · simp only [List.filter_cons, hf, if_true, risingFrom, Bool.and_eq_true, decide_eq_true_eq]
      exact ⟨h.1, ih h.2⟩
    · simp only [List.filter_cons, hf]
      exact ih (rising_weaken (Nat.le_of_lt h.1) h.2)

theorem rising_filter_none (f : Nat × α → Bool) {l : List (Nat × α)} (h : risingFrom none l = true) :
    risingFrom none (l.filter f) = true := by
  cases l with
  | nil => rfl
  | cons q r =>
    simp only [risingFrom] at h
    by_cases hf : f q = true
    · simp only [List.filter_cons, hf, if_true, risingFrom]
      exact rising_filter f h
    · simp only [List.filter_cons, hf]
      exact rising_forget (rising_filter f h)

theorem rising_map (f : Nat → α → α) (b : Option Nat) (l : List (Nat × α)) :
    risingFrom b (l.map (fun p => (p.1, f p.1 p.2))) = risingFrom b l := by
  induction l generalizing b with
  | nil => cases b <;> rfl
  | cons q r ih => cases b <;> simp [risingFrom, ih]

theorem lookupIn_of_mem {n : Nat} {v : α} {l : List (Nat × α)} (h : risingFrom none l = true) (hm : (n, v) ∈ l) :
    lookupIn n l = some v := by
  induction l with
  | nil => simp at hm
  | cons q r ih =>
    obtain ⟨j, w⟩ := q
    simp only [risingFrom] at h
    rcases List.mem_cons.mp hm with hq | hr
    · simp only [Prod.mk.injEq] at hq
      simp [lookupIn, hq.1, hq.2]
    · have := rising_above h _ hr
      simp only [lookupIn]
      rw [if_neg (by simp at this; omega)]
      exact ih (rising_forget h) hr

-- reading a table after an operation

@[simp] theorem Table.get?_empty (n : Nat) : (Table.empty : Table α).get? n = none := rfl

@[simp] theorem Table.get?_set_same (t : Table α) (k : Nat) (v : α) : (t.set k v).get? k = some v :=
  lookupIn_insertIn_same k v t.entries

theorem Table.get?_set_other (t : Table α) {k n : Nat} (v : α) (h : n ≠ k) : (t.set k v).get? n = t.get? n :=
  lookupIn_insertIn_other v t.entries h

theorem Table.get?_set (t : Table α) (k n : Nat) (v : α) :
    (t.set k v).get? n = if n = k then some v else t.get? n := by
  by_cases h : n = k
  · subst h; simp
  · rw [if_neg h]; exact t.get?_set_other v h

@[simp] theorem Table.get?_erase_same (t : Table α) (k : Nat) : (t.erase k).get? k = none :=
  lookupIn_filter_same k t.entries

theorem Table.get?_erase_other (t : Table α) {k n : Nat} (h : n ≠ k) : (t.erase k).get? n = t.get? n :=
  lookupIn_filter_other t.entries h

theorem Table.get?_erase (t : Table α) (k n : Nat) : (t.erase k).get? n = if n = k then none else t.get? n := by
  by_cases h : n = k
  · subst h; simp
  · rw [if_neg h]; exact t.get?_erase_other h

@[simp] theorem Table.get?_map (t : Table α) (f : Nat → α → α) (n : Nat) : (t.map f).get? n = (t.get? n).map (f n) :=
  lookupIn_map f n t.entries

theorem Table.get?_modify (t : Table α) (k n : Nat) (f : α → α) :
    (t.modify k f).get? n = if n = k then (t.get? n).map f else t.get? n := by
  by_cases h : n = k
  · subst h
    cases hv : t.get? n <;> simp [Table.modify, hv]
  · rw [if_neg h]
    unfold Table.modify
    split
    · exact t.get?_set_other _ h
    · rfl

theorem Table.get?_keep {t : Table α} (h : t.wf = true) (f : Nat → α → Bool) (n : Nat) (v : α) :
    (t.keep f).get? n = some v ↔ t.get? n = some v ∧ f n v = true := by
  constructor
  · intro hv
    have hm := mem_of_lookupIn hv
    simp only [Table.keep, List.mem_filter] at hm
    exact ⟨lookupIn_of_mem h hm.1, hm.2⟩
  · intro hv
    exact lookupIn_of_mem (rising_filter_none _ h) (List.mem_filter.mpr ⟨mem_of_lookupIn hv.1, hv.2⟩)

theorem Table.mem_of_get? {t : Table α} {n : Nat} {v : α} (h : t.get? n = some v) : (n, v) ∈ t.entries :=
  mem_of_lookupIn h

theorem Table.get?_of_mem {t : Table α} (h : t.wf = true) {n : Nat} {v : α} (hm : (n, v) ∈ t.entries) :
    t.get? n = some v := lookupIn_of_mem h hm

-- the canonical form is kept

theorem Table.wf_empty : (Table.empty : Table α).wf = true := rfl

theorem Table.wf_set {t : Table α} (h : t.wf = true) (k : Nat) (v : α) : (t.set k v).wf = true :=
  rising_insertIn_none k v h

theorem Table.wf_erase {t : Table α} (h : t.wf = true) (k : Nat) : (t.erase k).wf = true := rising_filter_none _ h

theorem Table.wf_keep {t : Table α} (h : t.wf = true) (f : Nat → α → Bool) : (t.keep f).wf = true :=
  rising_filter_none _ h

theorem Table.wf_map {t : Table α} (h : t.wf = true) (f : Nat → α → α) : (t.map f).wf = true := by
  simpa [Table.wf, Table.map, rising_map] using h

theorem Table.wf_modify {t : Table α} (h : t.wf = true) (k : Nat) (f : α → α) : (t.modify k f).wf = true := by
  unfold Table.modify
  split
  · exact wf_set h _ _
  · exact h

/-- What the search for a free number answers: a number in its range that is not listed, and every one below it is. -/
theorem Table.firstFree_some {t : Table α} {fuel k n : Nat} (h : t.firstFree fuel k = some n) :
    k ≤ n ∧ n < k + fuel ∧ t.get? n = none ∧ ∀ j, k ≤ j → j < n → (t.get? j).isSome = true := by
  induction fuel generalizing k with
  | zero => simp [Table.firstFree] at h
  | succ fuel ih =>
    simp only [Table.firstFree] at h
    split at h
    · rename_i hk
      obtain ⟨h1, h2, h3, h4⟩ := ih h
      refine ⟨by omega, by omega, h3, fun j hj hn => ?_⟩
      by_cases hjk : j = k
      · subst hjk; exact hk
      · exact h4 j (by omega) hn
    · rename_i hk
      simp only [Option.some.injEq] at h
      subst h
      refine ⟨Nat.le_refl _, by omega, by simpa using hk, fun j h1 h2 => by omega⟩

/-- The search answers none exactly when every number of its range is listed. -/
theorem Table.firstFree_none {t : Table α} {fuel k : Nat} (h : t.firstFree fuel k = none) :
    ∀ j, k ≤ j → j < k + fuel → (t.get? j).isSome = true := by
  induction fuel generalizing k with
  | zero => intro j _ _; omega
  | succ fuel ih =>
    simp only [Table.firstFree] at h
    split at h
    · rename_i hk
      intro j h1 h2
      by_cases hjk : j = k
      · subst hjk; exact hk
      · exact ih h j (by omega) (by omega)
    · simp at h

/-- The first entry of a canonical table that passes a test has the lowest number of those that do. -/
theorem Table.find?_some {t : Table α} (h : t.wf = true) {f : Nat → α → Bool} {n : Nat} {v : α}
    (hf : t.find? f = some (n, v)) :
    t.get? n = some v ∧ f n v = true ∧ ∀ j w, t.get? j = some w → f j w = true → n ≤ j := by
  have key : ∀ l : List (Nat × α), risingFrom none l = true →
      l.find? (fun p => f p.1 p.2) = some (n, v) → ∀ p, p ∈ l → f p.1 p.2 = true → n ≤ p.1 := by
    intro l
    induction l with
    | nil => simp
    | cons q r ih =>
      intro hl hfind p hp hfp
      simp only [risingFrom] at hl
      simp only [List.find?_cons] at hfind
      split at hfind
      · simp only [Option.some.injEq] at hfind
        rcases List.mem_cons.mp hp with rfl | hr
        · simp [hfind]
        · have := rising_above hl p hr
          simp [hfind] at this
          omega
      · rename_i hq
        rcases List.mem_cons.mp hp with rfl | hr
        · simp [hfp] at hq
        · exact ih (rising_forget hl) hfind p hr hfp
  have hp : f n v = true := List.find?_some (p := fun p : Nat × α => f p.1 p.2) hf
  refine ⟨Table.get?_of_mem h (List.mem_of_find?_eq_some hf), hp, fun j w hw hfw => ?_⟩
  exact key t.entries h hf (j, w) (mem_of_lookupIn hw) hfw

/-- No entry of a canonical table passes a test that finds none. -/
theorem Table.find?_none {t : Table α} {f : Nat → α → Bool} (hf : t.find? f = none) {n : Nat} {v : α}
    (hv : t.get? n = some v) : f n v = false := by
  have := List.find?_eq_none.mp hf (n, v) (mem_of_lookupIn hv)
  exact Bool.eq_false_iff.mpr this

end Sys2Proof.Machine
end

