-- ==== Sys2Proof/Laws/Ops.lean ====
section
/-! SUPPORT. What each shared operation can do: what a request's exchange answers, what a read gives after a write, and which
part of the state an operation leaves alone. -/

namespace Sys2Proof.Laws

open Sys2Proof.Machine

-- the exchange of a request

theorem withSelect_of_eq {s : State} {x : Reception} (h : s.select = x) : s.withSelect x = s := by
  subst h; rfl

/-- The release of a select period: discarded, or taken with select idle again (R179, R186). -/
theorem release_spec (s : State) (take : State → State) :
    (s.restarting = true ∨ s.select = .abandoned → s.release take = { s with select := .idle }) ∧
    (s.restarting = false → s.select ≠ .abandoned → s.release take = take { s with select := .idle }) :=
  ⟨fun h => by simp only [State.release, h, if_true]; rfl, fun h h' => by simp [State.release, h, h', State.withSelect]⟩

theorem exchange_of_takes {s : State} (h : s.takesRequests) (tag : Nat) (q : Request) :
    s.exchange tag q = State.respond tag (q s.emptyBuffer) := by
  obtain ⟨h1, h2, h3⟩ := h
  have hr : s.release (fun s => if s.restartHeld then s.beginRestart .request else State.respond tag (q s.emptyBuffer)) =
      State.respond tag (q s.emptyBuffer) := by
    rw [(release_spec s _).2 h1 (by simp [h3]), show ({ s with select := .idle } : State) = s from withSelect_of_eq h3]
    simp [h2]
  exact hr

theorem exchange_discarded {s : State} (h : s.restarting = true ∨ s.select = .abandoned) (tag : Nat) (q : Request) :
    s.exchange tag q = { s with select := .idle } := (release_spec s _).1 h

/-- A select period whose assertion has been taken ends as one that came whole (R179). -/
theorem release_taking {s : State} (h : s.select = .taking) (take : State → State) :
    s.release take = ({ s with select := .idle } : State).release take := by
  have h1 : s.select ≠ .abandoned := by rw [h]; decide
  by_cases hr : s.restarting = true
  · rw [(release_spec s take).1 (.inl hr), (release_spec { s with select := .idle } take).1 (.inl hr)]
  · have hr := Bool.eq_false_iff.mpr hr
    rw [(release_spec s take).2 hr h1, (release_spec { s with select := .idle } take).2 hr (show Reception.idle ≠ .abandoned by decide)]

theorem exchange_taking {s : State} (h : s.select = .taking) (tag : Nat) (q : Request) :
    s.exchange tag q = ({ s with select := .idle } : State).exchange tag q := release_taking h _

theorem exchange_restartHeld {s : State} (h : s.restarting = false) (hs : s.select ≠ .abandoned)
    (hr : s.restartHeld = true) (tag : Nat) (q : Request) :
    s.exchange tag q = ({ s with select := .idle } : State).beginRestart .request := by
  have hr' : ({ s with select := .idle } : State).restartHeld = true := hr
  rw [State.exchange, (release_spec s _).2 h hs]
  simp [hr']

/-- The last bit of a frame: discarded, or checked with the input idle again (R129, R141). -/
theorem endFrame_spec (s : State) (check : State → State) :
    (s.restarting = true ∨ s.up.reception = .abandoned →
      s.endFrame check = { s with up := { s.up with reception := .idle } }) ∧
    (s.restarting = false → s.up.reception ≠ .abandoned →
      s.endFrame check = check { s with up := { s.up with reception := .idle } }) :=
  ⟨fun h => by simp only [State.endFrame, h, if_true]; rfl,
   fun h h' => by simp [State.endFrame, h, h', State.withReception, State.withUp]⟩

/-- The RESET pin at a change of its level: driven active outside a restart, it begins one (R186). -/
theorem turnPin_spec (s : State) :
    (s.pinHeld = true ∨ s.restarting = true → s.turnPin = { s with pinHeld := !s.pinHeld }) ∧
    (s.pinHeld = false → s.restarting = false →
      s.turnPin = ({ s with pinHeld := true } : State).beginRestart .resetPin) :=
  ⟨fun h => by simp only [State.turnPin, h, if_true]; rfl,
   fun h h' => by simp [State.turnPin, h, h', State.withPinHeld]⟩

/-- A restart completes only with the RESET pin released (R186). -/
theorem completeRestart_spec (s : State) :
    (s.restarting = true → s.pinHeld = false → s.completeRestart = s.finishRestart) ∧
    (s.restarting = false ∨ s.pinHeld = true → s.completeRestart = s) :=
  ⟨fun h h' => by simp [State.completeRestart, h, h'],
   fun h => by rcases h with h | h <;> simp [State.completeRestart, h]⟩

@[simp] theorem respond_done (tag : Nat) (v : Values) (s : State) :
    State.respond tag (done v s) = { s with response := some (okay tag v) } := rfl

@[simp] theorem respond_refuse (tag : Nat) (st : Status) (s : State) :
    State.respond tag (refuse st s) = { s with response := some (refused tag st) } := rfl

@[simp] theorem respond_refuseFor (tag : Nat) (st : Status) (r : Reason) (v : Values) (s : State) :
    State.respond tag (refuseFor st r v s) = { s with response := some (refusedFor tag st r v) } := rfl

@[simp] theorem respond_accepted (tag : Nat) (v : Values) (s : State) :
    State.respond tag (accepted v s) = { s with response := some { okay tag v with status := .accepted } } := rfl

@[simp] theorem emptyBuffer_eq (s : State) : s.emptyBuffer = { s with response := none } := rfl

theorem withSlot_some {slot : Nat} {s : State} {r : Subscriber} (h : slot < Config.slots) (hr : s.slot? slot = some r)
    (k : Subscriber → Request) : withSlot slot k s = k r s := by
  have : ¬ Config.slots ≤ slot := Nat.not_le.mpr h
  simp [withSlot, this, hr]

-- reads after writes

theorem slot?_setSlot (s : State) (n k : Nat) (r : Subscriber) :
    (s.setSlot n r).slot? k = if k = n then some r else s.slot? k := s.subs.slots.get?_set n k r

theorem element?_modifyElement (s : State) (i j : Nat) (f : Element → Element) :
    (s.modifyElement i f).element? j = if j = i then (s.element? j).map f else s.element? j :=
  s.plant.elements.get?_modify i j f

theorem port?_modifyPort (s : State) (tap port a b : Nat) (f : PortRecord → PortRecord) :
    (s.modifyPort tap port f).port? a b = if a = tap ∧ b = port then (s.port? a b).map f else s.port? a b := by
  unfold State.modifyPort State.port?
  rw [element?_modifyElement]
  by_cases ha : a = tap
  · subst ha
    rw [if_pos rfl]
    cases he : s.element? a with
    | none => simp
    | some e =>
      simp only [Option.map_some, true_and]
      cases hr : e.role with
      | node p => simp [Role.mapPorts, Role.ports]
      | amplifier p => simp [Role.mapPorts, Role.ports]
      | tap ports =>
        simp only [Role.mapPorts, Role.ports, List.getElem?_modify]
        by_cases hb : b = port
        · subst hb; cases ports[b]? <;> simp
        · have hb' : ¬ port = b := fun h => hb h.symm
          simp [hb, hb']
  · simp [ha]

theorem dark_modifyElement (s : State) (i j : Nat) (f : Element → Element) (hf : ∀ e, (f e).dark = e.dark) :
    (s.modifyElement i f).plant.dark j = s.plant.dark j := by
  have h := s.plant.elements.get?_modify i j f
  simp only [State.modifyElement, withPlant_plant, PlantTree.dark, h]
  by_cases h0 : j = 0
  · simp [h0]
  · by_cases hj : j = i
    · subst hj; cases s.plant.elements.get? j <;> simp [hf]
    · simp [h0, hj]

-- the Order Queue

theorem find?_isFor_map {f : Order → Order} (hf : ∀ o, (f o).tap = o.tap ∧ (f o).port = o.port) (a b : Nat)
    (q : List Order) : (q.map f).find? (Order.isFor a b) = (q.find? (Order.isFor a b)).map f := by
  induction q with
  | nil => rfl
  | cons o r ih =>
    have : Order.isFor a b (f o) = Order.isFor a b o := by simp [Order.isFor, hf o]
    simp only [List.map_cons, List.find?_cons, this]
    cases Order.isFor a b o <;> simp [ih]

theorem order?_isFor {s : State} {tap port : Nat} {o : Order} (h : s.order? tap port = some o) :
    o.tap = tap ∧ o.port = port := by
  have := List.find?_some h
  simpa [Order.isFor] using this

theorem order?_modifyOrder (s : State) (tap port a b : Nat) {f : Order → Order}
    (hf : ∀ o, (f o).tap = o.tap ∧ (f o).port = o.port) :
    (s.modifyOrder tap port f).order? a b =
      if a = tap ∧ b = port then (s.order? a b).map f else s.order? a b := by
  have h := find?_isFor_map (f := fun o => if o.isFor tap port then f o else o)
    (fun o => by split <;> simp [hf]) a b s.orders.queue
  have e1 : (s.modifyOrder tap port f).order? a b =
      (s.order? a b).map (fun o => if o.isFor tap port then f o else o) := h
  rw [e1]
  cases ho : s.order? a b with
  | none => simp
  | some o =>
    obtain ⟨h1, h2⟩ := order?_isFor ho
    by_cases hab : a = tap ∧ b = port
    · simp [hab, Order.isFor, h1, h2]
    · have : o.isFor tap port = false := by simp [Order.isFor, h1, h2]; intro h; exact fun h' => hab ⟨h, h'⟩
      simp [hab, this]

theorem order?_removeOrder_same (s : State) (tap port : Nat) : (s.removeOrder tap port).order? tap port = none := by
  simp [State.removeOrder, State.order?, State.setOrderQueue, List.find?_eq_none]

theorem order?_removeOrder_other (s : State) {tap port a b : Nat} (h : ¬ (a = tap ∧ b = port)) :
    (s.removeOrder tap port).order? a b = s.order? a b := by
  simp only [State.removeOrder, State.order?, State.setOrderQueue, withOrders_orders]
  induction s.orders.queue with
  | nil => rfl
  | cons o r ih =>
    simp only [List.filter_cons, List.find?_cons]
    by_cases hab : o.isFor a b
    · have ho : o.isFor tap port = false := by
        simp [Order.isFor] at hab ⊢
        intro h1 h2
        exact h ⟨hab.1.symm.trans h1, hab.2.symm.trans h2⟩
      simp [hab, ho]
    · cases ho : o.isFor tap port
      · simp [hab, ih]
      · simp [hab, ih]

theorem order?_append (s : State) (o : Order) (a b : Nat) :
    (s.setOrderQueue (s.orders.queue ++ [o])).order? a b =
      (s.order? a b).or (if o.tap = a ∧ o.port = b then some o else none) := by
  simp only [State.order?, State.setOrderQueue, withOrders_orders, List.find?_append, List.find?_cons, Order.isFor]
  by_cases h1 : o.tap = a <;> by_cases h2 : o.port = b <;> simp [h1, h2]

/-- Placing an order (R94): it succeeds exactly where one can be placed, changes nothing but the Order Queue, and the port
then has the order the rule gives; every other port keeps its own. -/
theorem placeOrder_spec (s : State) (tap port : Nat) (setting : Setting) (origin : Option Nat) :
    (s.canPlace tap port → ∃ q, s.placeOrder tap port setting origin =
        some { s with orders := { s.orders with queue := q } } ∧
      ({ s with orders := { s.orders with queue := q } } : State).order? tap port =
        some (s.placedOrder tap port setting origin) ∧
      (∀ a b, (a, b) ≠ (tap, port) →
        ({ s with orders := { s.orders with queue := q } } : State).order? a b = s.order? a b) ∧
      q.length = (if (s.order? tap port).isSome then s.orders.queue.length else s.orders.queue.length + 1)) ∧
    (¬ s.canPlace tap port → s.placeOrder tap port setting origin = none) := by
  unfold State.canPlace State.placeOrder State.placedOrder
  cases ho : s.order? tap port with
  | some o =>
    refine ⟨fun _ => ?_, fun h => absurd (Or.inl rfl) h⟩
    by_cases hs : o.state = .sent
    · dsimp only
      rw [if_pos hs, if_pos hs]
      refine ⟨_, rfl, ?_, fun a b hab => ?_, by simp⟩
      · have := order?_modifyOrder s tap port tap port
          (f := fun o => { o with followOn := some setting, origin := origin }) (fun o => ⟨rfl, rfl⟩)
        simp only [ho, and_self, if_true, Option.map_some] at this
        exact this
      · have := order?_modifyOrder s tap port a b
          (f := fun o => { o with followOn := some setting, origin := origin }) (fun o => ⟨rfl, rfl⟩)
        rw [if_neg (by simpa using hab)] at this
        exact this
    · dsimp only
      rw [if_neg hs, if_neg hs]
      refine ⟨_, rfl, ?_, fun a b hab => ?_, by simp⟩
      · have := order?_modifyOrder s tap port tap port
          (f := fun o => { o with setting := setting, attempts := 0, origin := origin }) (fun o => ⟨rfl, rfl⟩)
        simp only [ho, and_self, if_true, Option.map_some] at this
        exact this
      · have := order?_modifyOrder s tap port a b
          (f := fun o => { o with setting := setting, attempts := 0, origin := origin }) (fun o => ⟨rfl, rfl⟩)
        rw [if_neg (by simpa using hab)] at this
        exact this
  | none =>
    refine ⟨fun h => ?_, fun h => ?_⟩
    · have hl : s.orders.queue.length < Config.orders := by simpa using h
      simp only [hl, if_true]
      refine ⟨_, rfl, ?_, fun a b hab => ?_, by simp⟩
      · have := order?_append s (s.newOrder tap port setting origin) tap port
        simp only [ho, State.newOrder, and_self, if_true, Option.none_or] at this
        exact this
      · have := order?_append s (s.newOrder tap port setting origin) a b
        have hn : ¬ (tap = a ∧ port = b) := fun h => hab (by simp [h.1, h.2])
        simp only [State.newOrder, hn, if_false, Option.or_none] at this
        exact this
    · have hl : ¬ s.orders.queue.length < Config.orders := fun hl => h (Or.inr hl)
      simp only [hl, if_false]

-- what an operation leaves alone

theorem post_frame (s : State) (b : NoticeBody) (x : Subject) :
    s.post b x = { s with notices := s.notices.post s.clock.minute b x } := rfl

theorem offer_frame (e : ExpediteEntry) (s : State) : ∃ l d q,
    s.offer e = { s with down := { s.down with expedite := l, drops := d }, notices := q } := by
  unfold State.offer
  split
  · exact ⟨_, _, _, rfl⟩
  · split
    · exact ⟨_, _, _, rfl⟩
    · split
      · exact ⟨_, _, _, rfl⟩
      · split
        · exact ⟨_, _, _, rfl⟩
        · split <;> exact ⟨_, _, _, rfl⟩

/-- Only a DISABLE that is dropped is posted. -/
theorem offer_notices {e : ExpediteEntry} (h : ∀ a, e ≠ .disable a) (s : State) : (s.offer e).notices = s.notices := by
  unfold State.offer
  split
  · rfl
  · split
    · rfl
    · split
      · rfl
      · split
        · rfl
        · split
          · exact absurd rfl (h _)
          · rfl

theorem report_frame (slot : Nat) (s : State) : ∃ l d,
    s.report slot = { s with down := { s.down with expedite := l, drops := d } } := by
  unfold State.report
  split
  · obtain ⟨l, d, q, h⟩ := offer_frame (.refresh slot) s
    have hq := offer_notices (e := .refresh slot) (fun a h => by cases h) s
    rw [h] at hq ⊢
    refine ⟨l, d, ?_⟩
    simp only at hq
    rw [hq]
  · exact ⟨_, _, rfl⟩

theorem reportRecord_frame (slot : Nat) (s : State) : ∃ l d,
    s.reportRecord slot = { s with down := { s.down with expedite := l, drops := d } } := by
  unfold State.reportRecord
  split
  · split
    · exact report_frame slot s
    · exact ⟨_, _, rfl⟩
  · exact ⟨_, _, rfl⟩

theorem checkRound_frame (s : State) : ∃ p e f,
    s.checkRound = { s with poll := { s.poll with position := p, expired := e, periodInForce := f } } := by
  unfold State.checkRound
  split <;> exact ⟨_, _, _, rfl⟩

theorem beginWalk_frame (s : State) : ∃ q r w,
    s.beginWalk = { s with plant := { s.plant with queue := q, rederive := r, walk := w } } := by
  unfold State.beginWalk
  split
  · split
    · exact ⟨_, _, _, rfl⟩
    · split <;> exact ⟨_, _, _, rfl⟩
  · exact ⟨_, _, _, rfl⟩

theorem requestWalk_frame (s : State) (i : Nat) (k : PropagationKind) : ∃ q r w,
    s.requestWalk i k = { s with plant := { s.plant with
      elements := s.plant.elements.modify i (Element.owe s.clock.minute k), queue := q, rederive := r, walk := w } } := by
  unfold State.requestWalk
  obtain ⟨q, r, w, h⟩ := beginWalk_frame ((s.modifyElement i (Element.owe s.clock.minute k)).withPlant
    ((s.modifyElement i (Element.owe s.clock.minute k)).plant.enqueue i))
  have he : ((s.modifyElement i (Element.owe s.clock.minute k)).plant.enqueue i).elements =
      s.plant.elements.modify i (Element.owe s.clock.minute k) := by
    unfold PlantTree.enqueue
    split
    · rfl
    · split <;> rfl
  have hf : ((s.modifyElement i (Element.owe s.clock.minute k)).plant.enqueue i).rootFirst = s.plant.rootFirst := by
    unfold PlantTree.enqueue
    split
    · rfl
    · split <;> rfl
  exact ⟨q, r, w, by dsimp only; rw [h]; simp only [withPlant_plant, he, hf]; rfl⟩

theorem visit_frame (s : State) (i : Nat) : ∃ es p,
    (s.visit i).1 = { s with plant := { s.plant with elements := es }, poll := p } := by
  unfold State.visit
  split
  · exact ⟨_, _, rfl⟩
  · dsimp only
    split
    · exact ⟨_, _, rfl⟩
    · split <;> exact ⟨_, _, rfl⟩

theorem takeMark_frame (s : State) (i : Nat) : ∃ es,
    (s.takeMark i).1 = { s with plant := { s.plant with elements := es } } := by
  unfold State.takeMark
  split <;> exact ⟨_, rfl⟩

theorem pay_frame (s : State) (o : Owing) : ∃ q, s.pay o = { s with notices := q } := by
  unfold State.pay
  split <;> exact ⟨_, rfl⟩

theorem pay_all_frame (l : List Owing) (s : State) : ∃ q, l.foldl State.pay s = { s with notices := q } := by
  induction l generalizing s with
  | nil => exact ⟨_, rfl⟩
  | cons o r ih =>
    obtain ⟨q, h⟩ := pay_frame s o
    obtain ⟨q', h'⟩ := ih (s.pay o)
    exact ⟨q', by rw [List.foldl_cons, h', h]⟩

theorem endWalk_frame (s : State) : ∃ q l r w, s.endWalk = { s with
    orders := { s.orders with queue := q }, plant := { s.plant with queue := l, rederive := r, walk := w } } := by
  unfold State.endWalk
  obtain ⟨l, r, w, h⟩ := beginWalk_frame (s.releaseHeld.withPlant { s.releaseHeld.plant with walk := .idle })
  exact ⟨_, l, r, w, by simp only [h]; rfl⟩

theorem transmit_frame (s : State) (st : Stream) (f : DownFrame) :
    s.transmit st f = { s with down := { s.down with transmission := some { stream := st, frame := f } } } := rfl

theorem mapGrant_frame (s : State) : ∃ d, s.mapGrant = { s with down := d } := ⟨_, rfl⟩

theorem carouselGrant_frame (s : State) (n : Nat) (r : Subscriber) (passes : Nat) : ∃ d,
    s.carouselGrant n r passes = { s with down := d } := ⟨_, rfl⟩

theorem chooseBackground_frame (s : State) : ∃ d, s.chooseBackground = { s with down := d } := by
  unfold State.chooseBackground
  split <;> exact ⟨_, rfl⟩

theorem chooseExpedite_frame (s : State) : ∃ d, s.chooseExpedite = { s with down := d } := by
  unfold State.chooseExpedite
  split
  · exact ⟨_, rfl⟩
  · obtain ⟨d, h⟩ := chooseBackground_frame (s.withDown { s.down with expedite := [] })
    exact ⟨d, by rw [h]; rfl⟩

theorem chooseOther_frame (s : State) : ∃ d, s.chooseOther = { s with down := d } := by
  unfold State.chooseOther
  split
  · exact mapGrant_frame s
  · exact chooseExpedite_frame s

/-- The arbiter touches the three units that may own a window and the transmitter, and nothing else (R110, R111). -/
theorem arbitrate_frame (s : State) : ∃ d p o, s.arbitrate = { s with down := d, poll := p, orders := o } := by
  unfold State.arbitrate
  split
  · split
    · exact ⟨_, _, _, rfl⟩
    · obtain ⟨d, h⟩ := chooseOther_frame s; exact ⟨d, _, _, h⟩
  · split
    · split
      · rename_i i p _
        unfold State.pollGrant
        obtain ⟨a, b, c, h⟩ := checkRound_frame
          (((s.withPoll { p with flight := some { element := i, opened := false, void := false } }).withDown
            { s.down.bumpGap with orderRun := 0 }).transmit .poll (.poll i (s.addressOf i).1 (s.addressOf i).2))
        exact ⟨_, _, _, by dsimp only; rw [h]; rfl⟩
      · obtain ⟨d, h⟩ := chooseOther_frame s; exact ⟨d, _, _, h⟩
    · obtain ⟨d, h⟩ := chooseOther_frame s; exact ⟨d, _, _, h⟩

theorem openWindow_frame (s : State) (f : DownFrame) : ∃ u p o,
    s.openWindow f = { s with up := u, poll := p, orders := o } := by
  unfold State.openWindow
  split <;> exact ⟨_, _, _, rfl⟩

/-- The end of a transmission touches the transmitter, the window, and the two engines that may own it (R110). -/
theorem endTransmission_frame (s : State) : ∃ d u p o,
    s.endTransmission = { s with down := d, up := u, poll := p, orders := o } := by
  unfold State.endTransmission
  split
  · exact ⟨_, _, _, _, rfl⟩
  · rename_i t _
    obtain ⟨u, p, o, h⟩ := openWindow_frame (s.withDown { s.down with transmission := none }) t.frame
    obtain ⟨d, p', o', h'⟩ := arbitrate_frame ((s.withDown { s.down with transmission := none }).openWindow t.frame)
    exact ⟨d, u, p', o', by rw [h', h]; rfl⟩

theorem appendFollowOn_frame (s : State) (o : Order) : ∃ q,
    s.appendFollowOn o = { s with orders := { s.orders with queue := q } } := by
  unfold State.appendFollowOn
  split <;> exact ⟨_, rfl⟩

theorem failOrder_frame (s : State) (o : Order) (reason : OrderFailure) (written : Confirmed) : ∃ es q n,
    s.failOrder o reason written = { s with plant := { s.plant with elements := es }
                                            orders := { s.orders with queue := q }, notices := n } := by
  unfold State.failOrder
  obtain ⟨q, h⟩ := appendFollowOn_frame
    (((s.setConfirmed o.tap o.port written).removeOrder o.tap o.port).postOrderFailed o reason written) o
  exact ⟨_, q, _, by rw [h]; rfl⟩

theorem ackOrder_frame (s : State) (o : Order) : ∃ es q,
    s.ackOrder o = { s with plant := { s.plant with elements := es }, orders := { s.orders with queue := q } } := by
  unfold State.ackOrder
  obtain ⟨q, h⟩ := appendFollowOn_frame ((s.setConfirmed o.tap o.port o.setting.confirms).removeOrder o.tap o.port) o
  exact ⟨_, q, by rw [h]; rfl⟩

theorem settleOrder_frame (tap : Nat) (acc : State × List Order) (r : Nat × PortOutcome) : ∃ es q n,
    (State.settleOrder tap acc r).1 = { acc.1 with plant := { acc.1.plant with elements := es }
                                                   orders := { acc.1.orders with queue := q }, notices := n } := by
  unfold State.settleOrder
  split
  · exact ⟨_, _, _, rfl⟩
  · rename_i o _
    split
    · obtain ⟨es, q, h⟩ := ackOrder_frame acc.1 o; exact ⟨es, q, _, h⟩
    · obtain ⟨es, q, n, h⟩ := failOrder_frame acc.1 o .portFault .fault; exact ⟨es, q, n, h⟩
    · split
      · exact ⟨_, _, _, rfl⟩
      · split
        · exact ⟨_, _, _, rfl⟩
        · obtain ⟨es, q, n, h⟩ := failOrder_frame acc.1 o .noAnswer .unknown; exact ⟨es, q, n, h⟩

theorem settleOrders_frame (tap : Nat) (l : List (Nat × PortOutcome)) (acc : State × List Order) : ∃ es q n,
    (l.foldl (State.settleOrder tap) acc).1 = { acc.1 with plant := { acc.1.plant with elements := es }
                                                           orders := { acc.1.orders with queue := q }, notices := n } := by
  induction l generalizing acc with
  | nil => exact ⟨_, _, _, rfl⟩
  | cons r rest ih =>
    obtain ⟨es, q, n, h⟩ := settleOrder_frame tap acc r
    obtain ⟨es', q', n', h'⟩ := ih (State.settleOrder tap acc r)
    exact ⟨es', q', n', by rw [List.foldl_cons, h', h]⟩

/-- The end of an order frame clears the flight and touches port records, the Order Queue and the notices (R100 to
R105). -/
theorem settleFrame_frame (s : State) (f : OrderFlight) (outcome : Nat → PortOutcome) : ∃ es q n,
    s.settleFrame f outcome = { s with plant := { s.plant with elements := es }
                                       orders := { queue := q, flight := none }, notices := n } := by
  unfold State.settleFrame
  obtain ⟨es, q, n, h⟩ := settleOrders_frame f.tap (f.ports.map (fun p => (p, outcome p)))
    (s.withOrders { s.orders with flight := none }, [])
  exact ⟨es, _, n, by dsimp only; rw [h]; rfl⟩

theorem takeTick_frame (s : State) (tick : Nat) : ∃ a q, s.takeTick tick = { s with accrual := a, notices := q } := by
  unfold State.takeTick
  split
  · exact ⟨_, _, rfl⟩
  · split
    · exact ⟨_, _, rfl⟩
    · split <;> exact ⟨_, _, rfl⟩

theorem checkTick_frame (s : State) : ∃ c a q, s.checkTick = { s with clock := c, accrual := a, notices := q } := by
  obtain ⟨a, q, h⟩ := takeTick_frame (s.withClock { s.clock with lastTick := some (tickAt s.clock.minute) })
    (tickAt s.clock.minute)
  have key : ∀ due : Bool, ∃ c a q,
      (if due = true then (s.withClock { s.clock with lastTick := some (tickAt s.clock.minute) }).takeTick
        (tickAt s.clock.minute) else s) = { s with clock := c, accrual := a, notices := q } := by
    intro due
    cases due
    · exact ⟨_, _, _, rfl⟩
    · exact ⟨_, a, q, by rw [if_pos rfl, h]; rfl⟩
  exact key _

theorem switchover_frame (s : State) : ∃ l d q, s.switchover = { s with lineUp := l, down := d, notices := q } := by
  unfold State.switchover
  split
  · split <;> exact ⟨_, _, _, rfl⟩
  · exact ⟨_, _, _, rfl⟩

/-- A minute number offered to the clock's readers touches the line-up, the map cursor, the Accrual Engine and the notices
(R182). -/
theorem offerMinute_frame (s : State) : ∃ c l d a q,
    s.offerMinute = { s with clock := c, lineUp := l, down := d, accrual := a, notices := q } := by
  unfold State.offerMinute
  split
  · obtain ⟨c, a, q, h⟩ := checkTick_frame s; exact ⟨c, _, _, a, q, h⟩
  · obtain ⟨l, d, q, h⟩ := switchover_frame s
    obtain ⟨c, a, q', h'⟩ := checkTick_frame s.switchover.airEnds
    exact ⟨c, _, d, a, q', by rw [h']; simp only [State.airEnds, State.withLineUp, h]; rfl⟩

theorem chooseWalk_frame (s : State) : ∃ t a,
    s.chooseWalk = { s with lineUp := { s.lineUp with tiers := t }, accrual := a } := by
  unfold State.chooseWalk
  split
  · exact ⟨_, _, rfl⟩
  · split <;> exact ⟨_, _, rfl⟩

end Sys2Proof.Laws
end

