-- ==== Sys2Proof/Laws/PerInstr.lean ====
section
/-! SUPPORT. Facts about every command as syntax, one lemma for each command. -/

namespace Sys2Proof.Laws.requestEnvelope

open Sys2Proof.Machine

/-- A command has a request frame exactly when it has an owner to take it, both under one tag; its code is one of 1 to 50,
and its operands take at most 20 bytes (R180, R190). -/
def Statement (i : Instr) : Prop :=
  match i.requestParts, requestOf? i with
  | some (tag, code, body), some (owner, _) => tag = owner ∧ 1 ≤ code ∧ code ≤ 50 ∧ body.length ≤ 20
  | none, none => True
  | _, _ => False

theorem addSubscriber (tag account ceiling : Nat) : Statement (.addSubscriber tag account ceiling) :=
  ⟨rfl, by decide, by decide, Nat.le_of_ble_eq_true rfl⟩
theorem assignConverter (tag slot address : Nat) : Statement (.assignConverter tag slot address) :=
  ⟨rfl, by decide, by decide, Nat.le_of_ble_eq_true rfl⟩
theorem assignPort (tag slot tap port : Nat) : Statement (.assignPort tag slot tap port) :=
  ⟨rfl, by decide, by decide, Nat.le_of_ble_eq_true rfl⟩
theorem grantTiers (tag slot : Nat) (tiers : TierSet) : Statement (.grantTiers tag slot tiers) :=
  ⟨rfl, by decide, by decide, Nat.le_of_ble_eq_true rfl⟩
theorem revokeTiers (tag slot : Nat) (tiers : TierSet) : Statement (.revokeTiers tag slot tiers) :=
  ⟨rfl, by decide, by decide, Nat.le_of_ble_eq_true rfl⟩
theorem setCeiling (tag slot ceiling : Nat) : Statement (.setCeiling tag slot ceiling) :=
  ⟨rfl, by decide, by decide, Nat.le_of_ble_eq_true rfl⟩
theorem connect (tag slot : Nat) : Statement (.connect tag slot) :=
  ⟨rfl, by decide, by decide, Nat.le_of_ble_eq_true rfl⟩
theorem suspend (tag slot : Nat) : Statement (.suspend tag slot) :=
  ⟨rfl, by decide, by decide, Nat.le_of_ble_eq_true rfl⟩
theorem resume (tag slot : Nat) : Statement (.resume tag slot) :=
  ⟨rfl, by decide, by decide, Nat.le_of_ble_eq_true rfl⟩
theorem disconnect (tag slot : Nat) : Statement (.disconnect tag slot) :=
  ⟨rfl, by decide, by decide, Nat.le_of_ble_eq_true rfl⟩
theorem reissue (tag slot : Nat) : Statement (.reissue tag slot) :=
  ⟨rfl, by decide, by decide, Nat.le_of_ble_eq_true rfl⟩
theorem retire (tag slot : Nat) : Statement (.retire tag slot) :=
  ⟨rfl, by decide, by decide, Nat.le_of_ble_eq_true rfl⟩
theorem findSubscriber (tag kind value : Nat) : Statement (.findSubscriber tag kind value) :=
  ⟨rfl, by decide, by decide, Nat.le_of_ble_eq_true rfl⟩
theorem readSubscriber (tag slot : Nat) : Statement (.readSubscriber tag slot) :=
  ⟨rfl, by decide, by decide, Nat.le_of_ble_eq_true rfl⟩
theorem defineTier (tag tier rate : Nat) : Statement (.defineTier tag tier rate) :=
  ⟨rfl, by decide, by decide, Nat.le_of_ble_eq_true rfl⟩
theorem setTierRate (tag tier rate : Nat) : Statement (.setTierRate tag tier rate) :=
  ⟨rfl, by decide, by decide, Nat.le_of_ble_eq_true rfl⟩
theorem undefineTier (tag tier : Nat) : Statement (.undefineTier tag tier) :=
  ⟨rfl, by decide, by decide, Nat.le_of_ble_eq_true rfl⟩
theorem readTier (tag tier : Nat) : Statement (.readTier tag tier) :=
  ⟨rfl, by decide, by decide, Nat.le_of_ble_eq_true rfl⟩
theorem beginEdit (tag : Nat) : Statement (.beginEdit tag) :=
  ⟨rfl, by decide, by decide, Nat.le_of_ble_eq_true rfl⟩
theorem putChannel (tag number carrier program kind tier : Nat) :
    Statement (.putChannel tag number carrier program kind tier) :=
  ⟨rfl, by decide, by decide, Nat.le_of_ble_eq_true rfl⟩
theorem dropChannel (tag number : Nat) : Statement (.dropChannel tag number) :=
  ⟨rfl, by decide, by decide, Nat.le_of_ble_eq_true rfl⟩
theorem abandonEdit (tag : Nat) : Statement (.abandonEdit tag) :=
  ⟨rfl, by decide, by decide, Nat.le_of_ble_eq_true rfl⟩
theorem promote (tag minute : Nat) : Statement (.promote tag minute) :=
  ⟨rfl, by decide, by decide, Nat.le_of_ble_eq_true rfl⟩
theorem cancelPromote (tag : Nat) : Statement (.cancelPromote tag) :=
  ⟨rfl, by decide, by decide, Nat.le_of_ble_eq_true rfl⟩
theorem readChannel (tag generation number : Nat) : Statement (.readChannel tag generation number) :=
  ⟨rfl, by decide, by decide, Nat.le_of_ble_eq_true rfl⟩
theorem putOffer (tag slot event channel price tier opens closes airEnd : Nat) :
    Statement (.putOffer tag slot event channel price tier opens closes airEnd) :=
  ⟨rfl, by decide, by decide, Nat.le_of_ble_eq_true rfl⟩
theorem withdrawOffer (tag slot : Nat) : Statement (.withdrawOffer tag slot) :=
  ⟨rfl, by decide, by decide, Nat.le_of_ble_eq_true rfl⟩
theorem readOffer (tag slot : Nat) : Statement (.readOffer tag slot) :=
  ⟨rfl, by decide, by decide, Nat.le_of_ble_eq_true rfl⟩
theorem addElement (tag index kind parent group member : Nat) (last : Option Nat) :
    Statement (.addElement tag index kind parent group member last) :=
  by cases last <;> exact ⟨rfl, by decide, by decide, Nat.le_of_ble_eq_true rfl⟩
theorem removeElement (tag index : Nat) : Statement (.removeElement tag index) :=
  ⟨rfl, by decide, by decide, Nat.le_of_ble_eq_true rfl⟩
theorem findElement (tag group member : Nat) : Statement (.findElement tag group member) :=
  ⟨rfl, by decide, by decide, Nat.le_of_ble_eq_true rfl⟩
theorem readElement (tag index : Nat) : Statement (.readElement tag index) :=
  ⟨rfl, by decide, by decide, Nat.le_of_ble_eq_true rfl⟩
theorem setPollSettings (tag timeout missLimit period : Nat) :
    Statement (.setPollSettings tag timeout missLimit period) :=
  ⟨rfl, by decide, by decide, Nat.le_of_ble_eq_true rfl⟩
theorem setPolling (tag index enable : Nat) : Statement (.setPolling tag index enable) :=
  ⟨rfl, by decide, by decide, Nat.le_of_ble_eq_true rfl⟩
theorem setLevelWindow (tag index : Nat) (low high : Int) (hysteresis : Nat) :
    Statement (.setLevelWindow tag index low high hysteresis) :=
  ⟨rfl, by decide, by decide, Nat.le_of_ble_eq_true rfl⟩
theorem readPolling (tag : Nat) : Statement (.readPolling tag) :=
  ⟨rfl, by decide, by decide, Nat.le_of_ble_eq_true rfl⟩
theorem clearPort (tag tap port : Nat) : Statement (.clearPort tag tap port) :=
  ⟨rfl, by decide, by decide, Nat.le_of_ble_eq_true rfl⟩
theorem readOrder (tag position : Nat) : Statement (.readOrder tag position) :=
  ⟨rfl, by decide, by decide, Nat.le_of_ble_eq_true rfl⟩
theorem readDownstream (tag : Nat) : Statement (.readDownstream tag) :=
  ⟨rfl, by decide, by decide, Nat.le_of_ble_eq_true rfl⟩
theorem readCounters (tag : Nat) : Statement (.readCounters tag) :=
  ⟨rfl, by decide, by decide, Nat.le_of_ble_eq_true rfl⟩
theorem setThreshold (tag ticks : Nat) : Statement (.setThreshold tag ticks) :=
  ⟨rfl, by decide, by decide, Nat.le_of_ble_eq_true rfl⟩
theorem readAccrual (tag : Nat) : Statement (.readAccrual tag) :=
  ⟨rfl, by decide, by decide, Nat.le_of_ble_eq_true rfl⟩
theorem startPeriod (tag days : Nat) : Statement (.startPeriod tag days) :=
  ⟨rfl, by decide, by decide, Nat.le_of_ble_eq_true rfl⟩
theorem takeStatement (tag slot : Nat) : Statement (.takeStatement tag slot) :=
  ⟨rfl, by decide, by decide, Nat.le_of_ble_eq_true rfl⟩
theorem takeNotice (tag : Nat) : Statement (.takeNotice tag) :=
  ⟨rfl, by decide, by decide, Nat.le_of_ble_eq_true rfl⟩
theorem setAlarmLevel (tag level : Nat) : Statement (.setAlarmLevel tag level) :=
  ⟨rfl, by decide, by decide, Nat.le_of_ble_eq_true rfl⟩
theorem setSystemCode (tag code : Nat) : Statement (.setSystemCode tag code) :=
  ⟨rfl, by decide, by decide, Nat.le_of_ble_eq_true rfl⟩
theorem setTime (tag minute : Nat) : Statement (.setTime tag minute) :=
  ⟨rfl, by decide, by decide, Nat.le_of_ble_eq_true rfl⟩
theorem readStatus (tag : Nat) : Statement (.readStatus tag) :=
  ⟨rfl, by decide, by decide, Nat.le_of_ble_eq_true rfl⟩
theorem restart (tag : Nat) : Statement (.restart tag) :=
  ⟨rfl, by decide, by decide, Nat.le_of_ble_eq_true rfl⟩
theorem selectPeriod (edge : SelectEdge) (dataIn : List Byte) : Statement (.selectPeriod edge dataIn) :=
  trivial
theorem resetPin : Statement .resetPin :=
  trivial
theorem restartComplete : Statement .restartComplete :=
  trivial
theorem powerOnReset (straps : Nat) : Statement (.powerOnReset straps) :=
  trivial
theorem secondTick : Statement .secondTick :=
  trivial
theorem minuteEvent : Statement .minuteEvent :=
  trivial
theorem accrualVisit : Statement .accrualVisit :=
  trivial
theorem accrualWalkEnd : Statement .accrualWalkEnd :=
  trivial
theorem periodVisit : Statement .periodVisit :=
  trivial
theorem periodWalkEnd : Statement .periodWalkEnd :=
  trivial
theorem propagationVisit : Statement .propagationVisit :=
  trivial
theorem rederiveVisit : Statement .rederiveVisit :=
  trivial
theorem propagationWalkEnd : Statement .propagationWalkEnd :=
  trivial
theorem rederiveWalkEnd : Statement .rederiveWalkEnd :=
  trivial
theorem roundTimerExpiry : Statement .roundTimerExpiry :=
  trivial
theorem transmissionEnd : Statement .transmissionEnd :=
  trivial
theorem pollReply (system group member : Nat) (level : Int) (power : Nat) :
    Statement (.pollReply system group member level power) :=
  trivial
theorem orderReply (system group member : Nat) (results : List (Nat × Nat)) :
    Statement (.orderReply system group member results) :=
  trivial
theorem hold (system group member : Nat) : Statement (.hold system group member) :=
  trivial
theorem purchase (system converter event : Nat) : Statement (.purchase system converter event) :=
  trivial
theorem unknownKindFrame (frame : Option (List Byte)) : Statement (.unknownKindFrame frame) :=
  trivial
theorem windowExpiry : Statement .windowExpiry :=
  trivial

end Sys2Proof.Laws.requestEnvelope
end

