-- ==== Sys2Proof/Tests/Slice0.lean ====
section
/-! SUPPORT. Tests of the part: the checks of WellFormed, frames written out from the layouts of spec/, single steps with results
the spec's worked sequences state, and for every statement with hypotheses a witness that meets them. -/

namespace Sys2Proof.Tests

open Sys2Proof.Machine

-- small states

/-- The state after reset with the clock set. -/
def clockAt (minute : Nat) : State :=
  { State.reset with clock := { minute := minute, seconds := 0, isSet := true, lastTick := none } }

/-- A record of account 1 with a port. -/
def aRecord (state : ServiceState) : Subscriber :=
  { newSubscriber 1 2000 0 with state := state, port := some { tap := 2, port := 0 } }

/-- Poll fields with the window of the worked sequences (4.10). -/
def aPoll (state : PollState) : PollRecord :=
  { newPollRecord true false with state := state, low := -40, high := 40, power := .mains }

/-- A node under the root. -/
def aNode (state : PollState) : Element := { newElement (.node true) 0 1 1 false with role := .node (aPoll state) }

/-- A lit tap of 4 ports under the root, its port 0 as given. -/
def aTap (confirmed : Confirmed) (link : Option Nat) : Element :=
  { newElement (.tap 4) 0 1 2 false with
    role := .tap ({ confirmed := confirmed, link := link } ::
      List.replicate 3 { confirmed := .unknown, link := none }) }

/-- A state with an element table; its root's first child is element 1. -/
def withPlantOf (es : List (Nat × Element)) (s : State) : State :=
  { s with plant := { s.plant with rootFirst := some 1, elements := ⟨es⟩ } }

/-- A state with one record in slot 0, and the tap 2 its port lies on. -/
def served (r : Subscriber) (confirmed : Confirmed) (s : State) : State :=
  withPlantOf [(2, aTap confirmed (some 0))]
    { s with subs := { slots := ⟨[(0, r)]⟩, accounts := ⟨[(r.account, 0)]⟩
                       converters := ⟨(r.converter.map (fun a => (a, 0))).toList⟩ } }

/-- An order for port 0 of tap 2. -/
def anOrder (state : OrderState) : Order :=
  { tap := 2, port := 0, setting := .full, state := state, attempts := 0, origin := some 0, followOn := none }

/-- A state in which that order is in flight and its window is open. -/
def inFlight (o : Order) (s : State) : State :=
  { served (aRecord .active) .off { s with systemCode := some 4660 } with
    orders := { queue := [o], flight := some { tap := 2, ports := [0], opened := true, holds := 0 } }
    up := { s.up with window := some { kind := .order, element := 2, group := 1, member := 2, timer := 250 } } }

/-- A state in which the poll of element 1 is in flight and its window is open. -/
def polled (state : PollState) : State :=
  let s := withPlantOf [(1, aNode state)] { State.reset with systemCode := some 4660 }
  { s with poll := { s.poll with flight := some { element := 1, opened := true, void := false } }
           up := { s.up with window := some { kind := .poll, element := 1, group := 1, member := 1, timer := 60 } } }

/-- What a propagation walk of element 1 holds at its beginning. -/
def anOwing (mark : Mark) : Owing := { element := 1, mark := mark, failMinute := 7, darkened := 0, relit := 0 }

/-- A propagation walk of element 1, the only element, that has visited it. -/
def walked (mark : Mark) (s : State) : State :=
  { withPlantOf [(1, aNode .up)] s with
    plant := { (withPlantOf [(1, aNode .up)] s).plant with walk := .propagation (anOwing mark) (some 1) } }

/-- The state after one command; the state itself where it stops. -/
def after (c : Instr) (s : State) : State :=
  match exec c s with
  | .next t => t
  | _ => s

-- WellFormed: for each check a term it refuses

theorem test_wf_refuses_1 : ([
    .addSubscriber 256 0 0, .addSubscriber 0 4294967296 0, .addSubscriber 0 0 65536, .assignConverter 256 0 0,
    .assignConverter 0 65536 0, .assignConverter 0 0 16777216, .assignPort 256 0 0 0, .assignPort 0 65536 0 0,
    .assignPort 0 0 65536 0, .assignPort 0 0 0 256, .grantTiers 256 0 0, .grantTiers 0 65536 0,
    .revokeTiers 256 0 0, .revokeTiers 0 65536 0, .setCeiling 256 0 0, .setCeiling 0 65536 0,
    .setCeiling 0 0 65536, .connect 256 0, .connect 0 65536, .suspend 256 0, .suspend 0 65536, .resume 256 0,
    .resume 0 65536, .disconnect 256 0, .disconnect 0 65536, .reissue 256 0] : List Instr).all (fun i => !i.wf) = true := by
  decide

theorem test_wf_refuses_2 : ([
    .reissue 0 65536, .retire 256 0, .retire 0 65536, .findSubscriber 256 0 0, .findSubscriber 0 256 0,
    .findSubscriber 0 0 4294967296, .readSubscriber 256 0, .readSubscriber 0 65536, .defineTier 256 0 0,
    .defineTier 0 256 0, .defineTier 0 0 65536, .setTierRate 256 0 0, .setTierRate 0 256 0, .setTierRate 0 0 65536,
    .undefineTier 256 0, .undefineTier 0 256, .readTier 256 0, .readTier 0 256, .beginEdit 256,
    .putChannel 256 0 0 0 0 0, .putChannel 0 65536 0 0 0 0, .putChannel 0 0 256 0 0 0, .putChannel 0 0 0 256 0 0,
    .putChannel 0 0 0 0 256 0, .putChannel 0 0 0 0 0 256, .dropChannel 256 0] : List Instr).all (fun i => !i.wf) = true := by
  decide

theorem test_wf_refuses_3 : ([
    .dropChannel 0 65536, .abandonEdit 256, .promote 256 0, .promote 0 4294967296, .cancelPromote 256,
    .readChannel 256 0 0, .readChannel 0 256 0, .readChannel 0 0 65536, .putOffer 256 0 0 0 0 0 0 0 0,
    .putOffer 0 256 0 0 0 0 0 0 0, .putOffer 0 0 65536 0 0 0 0 0 0, .putOffer 0 0 0 65536 0 0 0 0 0,
    .putOffer 0 0 0 0 65536 0 0 0 0, .putOffer 0 0 0 0 0 256 0 0 0, .putOffer 0 0 0 0 0 0 4294967296 0 0,
    .putOffer 0 0 0 0 0 0 0 4294967296 0, .putOffer 0 0 0 0 0 0 0 0 4294967296, .withdrawOffer 256 0,
    .withdrawOffer 0 256, .readOffer 256 0, .readOffer 0 256, .addElement 256 0 0 0 0 0 none,
    .addElement 0 65536 0 0 0 0 none, .addElement 0 0 256 0 0 0 none, .addElement 0 0 0 65536 0 0 none,
    .addElement 0 0 0 0 256 0 none] : List Instr).all (fun i => !i.wf) = true := by
  decide

theorem test_wf_refuses_4 : ([
    .addElement 0 0 0 0 0 256 none, .addElement 0 0 0 0 0 0 (some 256), .removeElement 256 0,
    .removeElement 0 65536, .findElement 256 0 0, .findElement 0 256 0, .findElement 0 0 256, .readElement 256 0,
    .readElement 0 65536, .setPollSettings 256 0 0 0, .setPollSettings 0 256 0 0, .setPollSettings 0 0 256 0,
    .setPollSettings 0 0 0 65536, .setPolling 256 0 0, .setPolling 0 65536 0, .setPolling 0 0 256,
    .setLevelWindow 256 0 0 0 0, .setLevelWindow 0 65536 0 0 0, .setLevelWindow 0 0 0 0 256,
    .setLevelWindow 0 0 (-32769) 0 0, .setLevelWindow 0 0 32768 0 0, .setLevelWindow 0 0 0 (-32769) 0,
    .setLevelWindow 0 0 0 32768 0, .readPolling 256, .clearPort 256 0 0, .clearPort 0 65536 0] : List Instr).all (fun i => !i.wf) = true := by
  decide

theorem test_wf_refuses_5 : ([
    .clearPort 0 0 256, .readOrder 256 0, .readOrder 0 256, .readDownstream 256, .readCounters 256,
    .setThreshold 256 0, .setThreshold 0 256, .readAccrual 256, .startPeriod 256 0, .startPeriod 0 256,
    .takeStatement 256 0, .takeStatement 0 65536, .takeNotice 256, .setAlarmLevel 256 0, .setAlarmLevel 0 256,
    .setSystemCode 256 0, .setSystemCode 0 65536, .setTime 256 0, .setTime 0 4294967296, .readStatus 256,
    .restart 256, .powerOnReset 4, .pollReply 65536 0 0 0 0, .pollReply 0 256 0 0 0, .pollReply 0 0 256 0 0,
    .pollReply 0 0 0 0 256] : List Instr).all (fun i => !i.wf) = true := by
  decide

theorem test_wf_refuses_6 : ([
    .selectPeriod .asserted [1], .pollReply 0 0 0 (-32769) 0, .pollReply 0 0 0 32768 0, .orderReply 65536 0 0 [],
    .orderReply 0 256 0 [],
    .orderReply 0 0 256 [], .orderReply 0 0 0 [(256, 0)], .orderReply 0 0 0 [(0, 256)],
    .orderReply 0 0 0 (List.replicate 256 (0, 0)), .hold 65536 0 0, .hold 0 256 0, .hold 0 0 256,
    .purchase 65536 0 0, .purchase 0 16777216 0, .purchase 0 0 65536] : List Instr).all (fun i => !i.wf) = true := by
  decide +kernel

theorem test_wf_accepts : ([.connect 255 65535, .assignConverter 0 0 16777215, .setLevelWindow 0 1 (-32768) 32767 255,
    .addElement 1 1 2 0 62 254 (some 255), .powerOnReset 3, .purchase 65535 16777215 65535] : List Instr).all
      Instr.wf = true := by
  decide

-- frames, written out from 12_frame_layouts.md

/-- R189: the check sequence over the ASCII digits 1 to 9 is 0x29B1. -/
theorem test_crc_check_value : crc [0x31, 0x32, 0x33, 0x34, 0x35, 0x36, 0x37, 0x38, 0x39] = 0x29B1#16 := by decide +kernel

/-- R190: CONNECT is code 7 with a slot of 2 bytes. -/
theorem test_parse_connect : parseRequest (withCheck [0x2A, 7, 0x0F, 0xFF]) = .request (.connect 42 4095) := by decide +kernel

/-- R190, R191: GRANT TIERS is code 4 with a slot and a tier mask; tiers 0, 5, 9 are bits 0, 5 and 9. -/
theorem test_parse_grant :
    parseRequest (withCheck [1, 4, 0, 2, 0, 0, 0x02, 0x21]) = .request (.grantTiers 1 2 0x221#32) := by decide +kernel

/-- R188, R191: a level is 2 bytes, signed. -/
theorem test_parse_level_window : parseRequest (withCheck [1, 35, 0, 40, 0xFF, 0xD8, 0, 40, 10]) =
    .request (.setLevelWindow 1 40 (-40) 40 10) := by decide +kernel

/-- R191: ADD ELEMENT without its last byte leaves poll enable out. -/
theorem test_parse_add_element : parseRequest (withCheck [1, 29, 0, 12, 1, 0, 1, 3, 77]) =
    .request (.addElement 1 12 1 1 3 77 none) := by decide +kernel

/-- R180: the checks of the envelope in order. -/
theorem test_parse_bad : parseRequest [9, 7, 0] = .bad 9 .length ∧ parseRequest [9, 7, 0, 2, 0, 0] = .bad 9 .check ∧
    parseRequest (withCheck [9, 51]) = .bad 9 .code ∧ parseRequest (withCheck [9, 7, 0]) = .bad 9 .length := by decide +kernel

/-- The HOLD of 12.5 is 9 bytes of form 1 and count 0; with count 1 it is MALFORMED (R194). -/
theorem test_parse_hold :
    parseUpstream (withCheck [0x12, 0x34, 0x82, 3, 0x4D, 1, 0]) = some (some 4660, some (.hold 3 77)) ∧
    parseUpstream (withCheck [0x12, 0x34, 0x82, 3, 0x4D, 1, 1]) = some (some 4660, none) := by decide +kernel

/-- The final reply of 12.5: 13 bytes, port 5 ACK and port 6 NAK. -/
theorem test_parse_order_reply :
    parseUpstream (withCheck [0x12, 0x34, 0x82, 3, 0x4D, 0, 2, 5, 0, 6, 1]) =
      some (some 4660, some (.orderReply 3 77 [(5, 0), (6, 1)])) := by decide +kernel

/-- The ORDER frame of 12.5. -/
theorem test_order_frame : DownFrame.bytes 4660 (.order 318 3 77 [(5, .full), (6, .off)]) =
    withCheck [0x12, 0x34, 7, 3, 0x4D, 2, 5, 2, 6, 0] := by decide +kernel

/-- R193: a PURCHASE from converter 902,556 for event 6,300. -/
theorem test_parse_purchase :
    parseUpstream (withCheck [0x12, 0x34, 0x83, 0x0D, 0xC5, 0x9C, 0x18, 0x9C]) =
      some (some 4660, some (.purchase 902556 6300)) := by decide +kernel

-- single steps, with the results of the worked sequences

/-- 8.10 and 9.7: the per-tick rates of tiers 0 and 5 for periods of 30 and 31 days. -/
theorem test_per_tick : perTick 2450 30 = 14272284 ∧ perTick 1199 30 = 6984681 ∧ perTick 2450 31 = 13811888 ∧
    perTick 1249 31 = 7041244 := by decide

/-- 8.10: visit 1,007 settles the spell of 6 ticks and charges its own. -/
theorem test_settlement :
    let r := { aRecord .active with weight := 21256965, accumulator := 21256965000, held := 127541790, spell := 6
                                    charged := 1000 }
    (r.visitLit 16).accumulator = 21405763755 ∧ (r.visitLit 16).charged = 1007 ∧ (r.visitLit 16).held = 0 := by decide

/-- 8.10: visit 2,016 is the sixteenth dark tick and decides the spell as credited. -/
theorem test_credit :
    let r := { aRecord .active with weight := 21256965, held := 318854475, spell := 15 }
    (r.visitDark 16).spell = 16 ∧ (r.visitDark 16).held = 0 ∧ (r.visitDark 16).credited = 16 := by decide

/-- 9.7: slot 2's figures merge into the statement it holds. -/
theorem test_merge :
    let r := { aRecord .active with
      accumulator := 60794919900, charged := 2860, credited := 20, purchaseTotal := 2098, purchaseCount := 3
      periodTag := 8
      statement := some { service := 1394, purchases := 0, purchaseCount := 0, charged := 1100, credited := 0
                          merged := 1, closing := 7 } }
    r.close.statement = some { service := 5018, purchases := 2098, purchaseCount := 3, charged := 3960, credited := 20
                               merged := 2, closing := 8 } := by decide

/-- 4.11: the level states of the seven answers. -/
theorem test_levels : [(-46 : Int), -38, -31, -30, -41, 250, 35].foldl
    (fun (acc : LevelState × List LevelState) L =>
      let n := acc.1.evaluate (clampLevel L) (-40) 40 10
      (n, acc.2 ++ [n])) (.normal, []) = (.high, [.low, .low, .low, .normal, .low, .high, .high]) := by decide

/-- 4.10: the third miss at miss limit 3 fails the element, and its failure is owed and walked. -/
theorem test_third_miss :
    let s := polled .up
    let e := { aNode .up with role := .node { aPoll .up with misses := 2 } }
    let t := after .windowExpiry { s with plant := { s.plant with elements := ⟨[(1, e)]⟩ } }
    (t.element? 1).map (fun e => (e.mark, e.role.poll?.map (fun p => (p.state, p.misses)))) =
      some (.outage, some (.failed, 3)) ∧ t.plant.walk.running = true := by decide

/-- 5.9: port 5 ACK confirms FULL and takes the order from the queue. -/
theorem test_ack :
    let t := after (.orderReply 4660 1 2 [(0, 0)]) (inFlight (anOrder .sent) State.reset)
    t.port? 2 0 = some { confirmed := .full, link := some 0 } ∧ t.orders.queue = [] ∧ t.notices.held = [] := by decide

/-- 5.9: a NAK confirms FAULT and posts ORDER FAILED. -/
theorem test_nak :
    let t := after (.orderReply 4660 1 2 [(0, 1)]) (inFlight (anOrder .sent) State.reset)
    (t.port? 2 0).map (fun p => p.confirmed) = some .fault ∧ t.notices.held.map (fun n => (n.body, n.subject)) =
      [(.orderFailed .portFault 2 0 .full (some 0) .fault, .slot 0)] := by decide

/-- 5.10: at the expiry of a lit tap's window the follow-on replaces the order, whose attempts start again. -/
theorem test_follow_on :
    let t := after .windowExpiry
      (inFlight { anOrder .sent with setting := .off, followOn := some .full } State.reset)
    t.orders.queue = [{ anOrder .queued with setting := .full, attempts := 0 }] := by decide

/-- 5.9: a HOLD counts and restarts the window at 250 ms. -/
theorem test_hold :
    let t := after (.hold 4660 1 2) (inFlight (anOrder .sent) State.reset)
    t.orders.flight.map (fun f => f.holds) = some 1 ∧ t.up.window.map (fun w => w.timer) = some 250 := by decide

/-- 6.10, choice 1: orders take the free window while the run is below 4, though the map gap is 6. -/
theorem test_choice_orders :
    let s := served (aRecord .active) .off { State.reset with systemCode := some 1 }
    let t := after .transmissionEnd { s with
      orders := { queue := [anOrder .queued], flight := none }
      down := { s.down with orderRun := 3, mapGap := 6, transmission := some ⟨.map, .time 0 false 0⟩ } }
    t.down.transmission.map (fun x => x.stream) = some .order ∧ t.down.orderRun = 4 ∧ t.down.mapGap = 7 := by decide

/-- 6.11, event c: a repeated decline takes the reason and keeps its position. -/
theorem test_decline_merges :
    (({ State.reset with down := { State.reset.down with
        expedite := [.refresh 1, .decline 3000 7001 .window, .refresh 2] } } : State).offer
          (.decline 3000 7001 .ceiling)).down.expedite =
      [.refresh 1, .decline 3000 7001 .ceiling, .refresh 2] := by decide

/-- 7.7, steps 1, 3 and 4: accepted; accepted again after the close minute without a charge; declined CEILING. -/
theorem test_purchases :
    let o : Offer := { event := 6300, channel := 89, price := 599, tier := 0, opens := 28420000, closes := 28420120
                       airEnd := 28420300 }
    let r := { aRecord .active with converter := some 902556, tiers := 0x21#32, purchases := [6210]
                                    purchaseTotal := 799, purchaseCount := 1 }
    let s := served r .full { clockAt 28420050 with systemCode := some 4660 }
    let s1 := { s with lineUp := { s.lineUp with offers := ⟨[(6, o)]⟩ } }
    let t := after (.purchase 4660 902556 6300) s1
    let late := { t with clock := { t.clock with minute := 28420130 } }
    let dear := { s1 with lineUp := { s.lineUp with offers := ⟨[(6, { o with price := 1202 })]⟩ } }
    (t.slot? 0).map (fun r => (r.purchases, r.purchaseTotal, r.purchaseCount)) = some ([6210, 6300], 1398, 2) ∧
    (after (.purchase 4660 902556 6300) late).slot? 0 = late.slot? 0 ∧
    (after (.purchase 4660 902556 6300) dear).down.expedite = [.decline 0 6300 .ceiling] := by decide

/-- 2.3, step 3: a PROMOTE that would leave an offer on a channel that is not IMPULSE is refused. -/
theorem test_promote_offer :
    let s := clockAt 28405800
    let c : Channel := { carrier := 61, program := 2, kind := .scrambled, tier := 7 }
    let o : Offer := { event := 5120, channel := 88, price := 499, tier := 3, opens := 28405500, closes := 28405890
                       airEnd := 28406100 }
    let tier : Tier := { currentRate := 1, nextRate := 1, currentQ := 0, previousQ := 0, holders := 0 }
    let t := after (.promote 1 28406400) { s with lineUp := { s.lineUp with
      tiers := ⟨[(7, tier)]⟩, editor := .editing { number := 42, channels := ⟨[(88, c)]⟩ }, offers := ⟨[(3, o)]⟩ } }
    t.response = some (refusedFor 1 .invalid .offer (.offerOn 3 5120 88)) := by decide

/-- 3.11: amplifier 12's darkness shadows a FAILED element below it, which stays dark. -/
theorem test_visit_shadows :
    let e := { aNode .failed with parent := 1, dark := true }
    let s := withPlantOf [(1, { aNode .failed with dark := true }), (3, e)] State.reset
    ((s.visit 3).1.element? 3).map (fun e => (e.shadow, e.dark, e.role.poll?.map (fun p => p.state))) =
      some (true, true, some .shadowed) := by decide

/-- 8.11: with a period walk running and a tick pending, a further tick is lost. -/
theorem test_lost_tick :
    let s := clockAt 28430114
    let t := after .minuteEvent { s with accrual := { s.accrual with
      length := some 31, walk := .period 16 true 0 0, pendingTick := some 28430100 } }
    t.accrual.pendingTick = some 28430100 ∧
      t.notices.held.map (fun n => n.body) = [.lostTick 28430115 none] := by decide

/-- 10.7: RESTORED coalesces into the OUTAGE of its element and keeps its place and first minute. -/
theorem test_coalesce :
    let q : NoticeQueue := { held := [{ body := .outage 5 28410003, subject := .element 12, first := 28410003
                                        last := 28410003, count := 1 }], lost := 0, level := .routine }
    (q.post 28410095 (.restored 15 92 .answer) (.element 12)).held =
      [{ body := .restored 15 92 .answer, subject := .element 12, first := 28410003, last := 28410095, count := 2 }] := by
  decide

/-- 11.2: a frame sent while a response is held is discarded and marks it. -/
theorem test_overrun :
    let s := { State.reset with response := some (okay 41 .none) }
    after (.selectPeriod (.released 0) (withCheck [42, 7, 0, 2])) s =
      { s with response := some { okay 41 .none with overrun := true } } := by decide

/-- The RESET pin driven active and released. -/
def pinPulse (s : State) : State := after .resetPin (after .resetPin s)

/-- R186: the pin keeps a restart in progress while it is held; its release lets it complete. -/
theorem test_pin_holds : (after .restartComplete (after .resetPin State.reset)).restarting = true ∧
    (pinPulse State.reset).restarting = true ∧ (after .restartComplete (pinPulse State.reset)).restarting = false ∧
    (pinPulse State.reset).notices.held.map (fun n => n.body) = [.restarted .resetPin 0] := by decide

/-- R186: the pin driven active in a restart that a request began joins it: the cause stands, and it is held in progress. -/
theorem test_pin_joins :
    let s := after (.selectPeriod (.released 100) []) (after (.restart 1) State.reset)
    s.restarting = true ∧ (after .restartComplete (after .resetPin s)).restarting = true ∧
    (after .restartComplete (pinPulse s)).notices.held.map (fun n => n.body) = [.restarted .request 0] := by decide +kernel

/-- R140, R141: a frame whose first bit came before a restart is abandoned, though it ends after the completion. -/
theorem test_frame_across_restart :
    let s := after .restartComplete (pinPulse (after (.unknownKindFrame none) State.reset))
    s.up.reception = .abandoned ∧ (after (.unknownKindFrame (some [1, 2, 3])) s).up.counters = s.up.counters ∧
    (after (.unknownKindFrame (some [1, 2, 3])) State.reset).up.counters.badCheck = 1 := by decide

/-- R186: a select period that was running when a restart began loses its data in. -/
theorem test_period_across_restart :
    let s := after .restartComplete (pinPulse (after (.selectPeriod .asserted []) State.reset))
    (after (.selectPeriod (.released 0) (withCheck [42, 49])) s).response = none ∧
    (after (.selectPeriod (.released 0) (withCheck [42, 49])) State.reset).response.isSome = true := by decide +kernel

/-- R72 step 1: a restart gives an OUTAGE mark that a walk had taken back to its element, with its fail minute. -/
theorem test_restart_gives_back : ((after .resetPin (walked .outage State.reset)).element? 1).map
    (fun e => (e.mark, e.failMinute, e.role.poll?.map (fun p => p.state))) = some (.outage, 7, some .unverified) := by decide

/-- 00_scope.md: strap value 3 is 64,000 bit/s. -/
theorem test_power_on_rate : (after (.powerOnReset 3) State.reset).rate = .bps64000 := by decide

/-- R13: the first record goes to slot 0. -/
theorem test_add_subscriber : (after (.addSubscriber 5 40117 2000) State.reset).response = some (okay 5 (.slot 0)) ∧
    (after (.addSubscriber 5 40117 2000) State.reset).slot? 0 = some (newSubscriber 40117 2000 0) := by decide

/-- R182: the sixtieth second is the minute event. -/
theorem test_second : (after .secondTick { State.reset with clock := { State.reset.clock with seconds := 59 } }).clock =
    { minute := 1, seconds := 0, isSet := false, lastTick := none } := by decide

-- a witness for every statement with hypotheses: states and operands that meet them, clause by clause

/-- A held response that a select period may read: 8 bytes. -/
def holding (r : Response) : State := { State.reset with response := some r }

/-- A state in which a restart is in progress. -/
def restarting (s : State) : State :=
  { s with restarting := true, plant := { s.plant with rederive := true } }

theorem witness_StepTakesFront : ({ State.reset with pending := [.secondTick] } : State).pending = [.secondTick] ∧
    State.reset.pending = [] := by decide

theorem witness_SelectPeriodServed :
    (restarting State.reset).restarting = true ∧ ({ State.reset with select := .abandoned } : State).select = .abandoned ∧
    State.reset.response = none ∧
    (∀ x, x ∈ [Reception.idle, .taking] →
      (holding (refused 1 .range)).restarting = false ∧ ({ holding (refused 1 .range) with select := x } : State).select ≠
        .abandoned ∧ (holding (refused 1 .range)).response = some (refused 1 .range) ∧
      7 < (refused 1 .range).bytes.length ∧ (refused 1 .range).bytes.length ≤ 8 ∧
      (refused 1 .range).startsRestart = false ∧ [1#8] ≠ ([] : List Byte)) := by
  decide

theorem witness_SelectPeriodServed_frames :
    (State.reset.restarting = false ∧ State.reset.select ≠ .abandoned ∧ State.reset.response = none) ∧
    [9#8, 7, 0].length < 4 ∧
    (4 ≤ [9#8, 7, 0, 0].length ∧ checkedContent [9#8, 7, 0, 0] = none) ∧
    checkedContent (withCheck [9, 0]) = some [9, 0] ∧ checkedContent (withCheck [9, 51]) = some [9, 51] ∧
    (checkedContent (withCheck [9, 1]) = some [9, 1] ∧ requestOf 9 1 [] = none) ∧
    (checkedContent (withCheck [9, 50, 0]) = some [9, 50, 0] ∧ requestOf 9 50 [0] = none) := by decide +kernel

theorem witness_RequestFrameRoundTrip : (Instr.connect 255 65535).wf = true ∧
    (Instr.connect 255 65535).requestFrame = some (withCheck [255, 7, 255, 255]) := by decide +kernel

theorem witness_RequestRowIsItsFrame : (Instr.readStatus 1).wf = true ∧
    (Instr.readStatus 1).requestFrame = some (withCheck [1, 49]) ∧
    (∀ r, (holding (refused 1 .range)).response = some r → r.bytes.length ≤ 8) :=
  ⟨by decide, by decide +kernel, fun r h => by cases h; decide⟩

theorem witness_RequestsAreAnswered : requestOf? (.readTier 1 32) = some (1, readTier 32) ∧
    (restarting State.reset).restarting = true ∧
    ({ State.reset with select := .abandoned } : State).select = .abandoned ∧
    ({ State.reset with select := .taking } : State).select = .taking ∧ State.reset.takesRequests ∧
    (∃ t, exec (.readTier 1 32) State.reset = .next t ∧ t.response = some (refused 1 .range) ∧
      (refused 1 .range).status ≠ .ok ∧ (refused 1 .range).status ≠ .accepted) :=
  ⟨rfl, rfl, rfl, rfl, by decide, _, rfl, rfl, by decide, by decide⟩

theorem witness_RestartBegins :
    let r : Response := { okay 1 .none with startsRestart := true }
    let s : State := { walked .outage (holding r) with accrual := { State.reset.accrual with walk := .accrual 15 } }
    State.reset.takesRequests ∧
    (s.restarting = false ∧ s.pinHeld = false ∧ s.select ≠ .abandoned ∧ s.response = some r ∧ r.startsRestart = true ∧ r.bytes.length ≤ 8) ∧
    (s.plant.elements.wf = true ∧ s.element? 1 = some (aNode .up) ∧ s.element? 2 = none ∧
      s.plant.walk.taken = [anOwing .outage] ∧ (s.plant.walk.taken.map (fun o => o.element)).Nodup ∧
      (anOwing .outage).element = 1 ∧ (∀ o, o ∈ State.reset.plant.walk.taken → o.element ≠ 1)) ∧
    s.accrual.walk = .accrual 15 ∧ State.reset.accrual.walk = .none ∧ (restarting s).restarting = true ∧
    (restarting s).pinHeld = false ∧ ({ s with pinHeld := true } : State).pinHeld = true := by decide

theorem witness_RestartCompletes :
    let s := restarting State.reset
    let known := restarting { State.reset with systemCode := some 1 }
    let walking := restarting { State.reset with accrual := { State.reset.accrual with walk := .period 16 true 0 0 } }
    let waiting := restarting { State.reset with accrual := { State.reset.accrual with pendingPeriod := some 28 } }
    let ticking := restarting { State.reset with accrual := { State.reset.accrual with pendingTick := some 15 } }
    (∀ x, x ∈ [s, known, walking, waiting, ticking] →
      x.restarting = true ∧ x.pinHeld = false ∧ x.plant.walk = .idle ∧ x.plant.queue = [] ∧ x.plant.rederive = true) ∧
    ({ s with pinHeld := true } : State).pinHeld = true ∧ s.systemCode = none ∧ known.systemCode.isSome = true ∧ walking.accrual.walk = .period 16 true 0 0 ∧
    (waiting.accrual.walk = .none ∧ waiting.accrual.pendingPeriod = some 28) ∧
    (ticking.accrual.walk = .none ∧ ticking.accrual.pendingPeriod = none ∧ ticking.accrual.pendingTick = some 15) := by
  decide

/-- An offer of event 1 on channel 2, open from minute 0 to 9 and on the air to minute 19. -/
def anOffer : Offer := { event := 1, channel := 2, price := 0, tier := 0, opens := 0, closes := 10, airEnd := 20 }

/-- A channel of tier 0 that an offer may name. -/
def aChannel : Channel := { carrier := 2, program := 0, kind := .impulse, tier := 0 }

/-- A tier that no record holds. -/
def aTier : Tier := { currentRate := 100, nextRate := 200, currentQ := 1, previousQ := 1, holders := 0 }

/-- A generation with that channel. -/
def aGeneration : Generation := { number := 7, channels := ⟨[(2, aChannel)]⟩ }

/-- A state with that tier, an editor, that generation as CURRENT, and offers. -/
def linedUp (e : Editor) (offers : List (Nat × Offer)) (s : State) : State :=
  { s with lineUp := { tiers := ⟨[(0, aTier)]⟩, current := aGeneration, editor := e, offers := ⟨offers⟩ } }

theorem witness_ReadTier : State.reset.takesRequests ∧ 31 < 32 ∧ 31 ≤ 31 ∧ State.reset.lineUp.tiers.get? 31 = none := by
  decide

theorem witness_ReadOffer : (linedUp .idle [(15, anOffer)] State.reset).takesRequests ∧ 15 < 16 ∧
    (15 ≤ 15 ∧ State.reset.lineUp.offers.get? 15 = none) ∧
    (linedUp .idle [(15, anOffer)] State.reset).lineUp.offers.get? 15 = some anOffer := by decide

theorem witness_SubscriberReads :
    let r := { aRecord .active with account := 99999999, converter := some 16777215 }
    let s := served r .full State.reset
    s.takesRequests ∧ (s.subs.accounts.get? 99999999 = some 0 ∧ s.slot? 0 = some r) ∧
    s.subs.converters.get? 16777215 = some 0 ∧
    (1 ≤ 2 ∧ 2 ≤ 1023 ∧ 255 < 256 ∧ 0 ≤ 7 ∧ s.port? 2 0 = some { confirmed := .full, link := some 0 }) ∧
    s.subs.accounts.get? 1 = none ∧ 2 < 3 ∧
    (r.port = some { tap := 2, port := 0 }) ∧
    (let t := { s with subs := { s.subs with slots := ⟨[(4095, newSubscriber 1 0 0)]⟩ } }
     t.slot? 4095 = some (newSubscriber 1 0 0) ∧ (newSubscriber 1 0 0).port = none) := by decide

theorem witness_BlockReads :
    let s := linedUp (.scheduled aGeneration 30) [] State.reset
    (s.takesRequests ∧ s.lineUp.current.channels.find? (fun k _ => decide (0 ≤ k)) = some (2, aChannel)) ∧
    (s.lineUp.editor = .scheduled aGeneration 30 ∧
      aGeneration.channels.find? (fun k _ => decide (2 ≤ k)) = some (2, aChannel)) ∧
    (let e := linedUp (.editing aGeneration) [] State.reset
     e.takesRequests ∧ e.lineUp.editor = .editing aGeneration ∧ e.lineUp.editor.next? = some aGeneration ∧
     -- no channel at or above 3, nor at or above 999
     aGeneration.channels.find? (fun k _ => decide (3 ≤ k)) = none ∧
     e.lineUp.current.channels.find? (fun k _ => decide (999 ≤ k)) = none) ∧
    (1 < 2 ∧ 999 < 1000) ∧
    State.reset.lineUp.editor = .idle ∧
    (let p := withPlantOf [(1023, aNode .up)] State.reset
     p.plant.elements.find? (fun _ x => x.group == 1 && x.member == 1) = some (1023, aNode .up) ∧
     p.element? 1023 = some (aNode .up)) ∧
    (let q := inFlight (anOrder .sent) State.reset
     q.orders.queue[0]? = some (anOrder .sent) ∧ q.element? 2 = some (aTap .off (some 0)) ∧
     q.orders.queue.length ≤ 63) := by decide

theorem witness_SystemCodeSetOnce : State.reset.takesRequests ∧ State.reset.systemCode = none ∧ 65535 ≤ 65535 ∧
    ({ State.reset with systemCode := some 1 } : State).takesRequests ∧
    ({ State.reset with systemCode := some 1 } : State).systemCode = some 1 ∧
    (∀ straps, Instr.secondTick ≠ .powerOnReset straps) ∧
    (∃ t, exec .secondTick { State.reset with systemCode := some 1 } = .next t) :=
  ⟨by decide, rfl, by decide, by decide, rfl, fun _ h => (by cases h), _, rfl⟩

theorem witness_SetTime : State.reset.takesRequests ∧ 4294967295 ≤ 4294967295 ∧ State.reset.clock.isSet = false ∧
    (let s := { linedUp (.scheduled aGeneration 102) [(0, anOffer)] (clockAt 100) with
       clock := { minute := 100, seconds := 0, isSet := true, lastTick := some 90 } }
     s.takesRequests ∧ s.clock.isSet = true ∧ (102 ≤ s.clock.minute + 2 ∧ s.clock.minute ≤ 98 + 2) ∧
     102 ≠ s.clock.minute ∧ s.clock.lastTick = some 90 ∧ 100 = s.clock.minute ∧ 103 > s.clock.minute + 2 ∧
     s.clock.minute > 97 + 2 ∧ s.lineUp.offers.wf = true ∧ s.lineUp.editor = .scheduled aGeneration 102 ∧
     ¬ 90 < 102 / 15 * 15 ∧ 90 < 105 / 15 * 15) := by decide

theorem witness_ClockRuns : State.reset.clock.seconds < 59 ∧
    ({ State.reset with clock := { State.reset.clock with seconds := 59 } } : State).clock.seconds = 59 ∧
    (clockAt 4294967294).clock.minute < 4294967295 ∧ (clockAt 4294967295).clock.minute = 4294967295 := by decide

theorem witness_MinuteReaders :
    let s := linedUp (.scheduled aGeneration 15) [(0, anOffer)] (clockAt 14)
    let ticked (w : AccrualWalk) : State := { s with accrual := { s.accrual with length := some 28, walk := w } }
    let twice : State := { ticked (.accrual 0) with accrual := { (ticked (.accrual 0)).accrual with pendingTick := some 0 } }
    (s.restarting = false ∧ s.clock.minute < 4294967295 ∧ s.lineUp.offers.wf = true) ∧
    (s.lineUp.editor = .scheduled aGeneration 15 ∧ 15 ≤ s.clock.minute + 1 ∧ s.accrual.length = none) ∧
    ((linedUp (.scheduled aGeneration 16) [] (clockAt 14)).lineUp.editor = .scheduled aGeneration 16 ∧
      (linedUp (.scheduled aGeneration 16) [] (clockAt 14)).clock.minute + 1 < 16) ∧
    (s.clock.isSet = true ∧ (s.clock.minute + 1) / 15 * 15 = 15 ∧ s.clock.lastTick = none) ∧
    ((ticked .none).accrual.length.isSome = true ∧ (ticked .none).accrual.walk = .none ∧
      (ticked .none).accrual.pendingPeriod = none ∧ (ticked .none).accrual.pendingTick = none) ∧
    ((ticked (.accrual 0)).accrual.walk ≠ .none ∧ (ticked (.accrual 0)).accrual.pendingTick = none) ∧
    (twice.accrual.length.isSome = true ∧ twice.accrual.pendingTick.isSome = true ∧ (restarting twice).restarting = true) ∧
    (let done := { clockAt 14 with clock := { (clockAt 14).clock with lastTick := some 15 } }
     State.reset.clock.isSet = false ∧ done.clock.lastTick = some 15 ∧ ¬ 15 < (done.clock.minute + 1) / 15 * 15) := by
  decide

theorem witness_AddSubscriber :
    let s := served (aRecord .active) .full State.reset
    s.takesRequests ∧ 99999999 ≤ 99999999 ∧ 65535 ≤ 65535 ∧
    (s.slot? 1 = none ∧ (∀ n, n < 1 → (s.slot? n).isSome = true) ∧ s.subs.accounts.get? 99999999 = none) ∧
    (s.subs.accounts.get? 1).isSome = true := by decide

/-- A table that lists the slots below a number. -/
def slotsBelow (k : Nat) : Table Subscriber := ⟨(List.range k).map (fun n => (n, newSubscriber (n + 1) 0 0))⟩

theorem slotsBelow_get? (k n : Nat) (h : n < k) : ((slotsBelow k).get? n).isSome = true := by
  have key : ∀ l : List Nat, n ∈ l → (lookupIn n (l.map (fun n => (n, newSubscriber (n + 1) 0 0)))).isSome = true := by
    intro l
    induction l with
    | nil => simp
    | cons a r ih =>
      intro hm
      simp only [List.map_cons, lookupIn]
      split
      · rfl
      · rcases List.mem_cons.mp hm with h | h
        · exact absurd h.symm ‹_›
        · exact ih h
  exact key _ (List.mem_range.mpr h)

/-- A state whose every slot below a number holds a record. -/
def filled (k : Nat) : State := { State.reset with subs := { State.reset.subs with slots := slotsBelow k } }

theorem witness_AddSubscriber_full : (filled 4096).takesRequests ∧ (filled 4096).subs.accounts.get? 1 = none ∧
    (∀ n, n < 4096 → ((filled 4096).slot? n).isSome = true) :=
  ⟨⟨rfl, rfl, rfl⟩, rfl, fun n h => slotsBelow_get? 4096 n h⟩

theorem witness_AssignConverter :
    let r := { aRecord .active with converter := some 5 }
    let s := served r .full State.reset
    let bare := served (aRecord .active) .full State.reset
    (s.takesRequests ∧ 0 ≤ 4095 ∧ 16777215 ≤ 16777215 ∧ s.slot? 0 = some r) ∧
    (r.converter = some 5 ∧ 16777215 ≠ 5 ∧ s.subs.converters.get? 16777215 = none ∧
      s.subs.converters.get? 0 = none) ∧
    (bare.slot? 0 = some (aRecord .active) ∧ (aRecord .active).converter = none ∧ 1 ≠ 0 ∧
      bare.subs.converters.get? 1 = none) ∧
    (let two := { s with subs := { s.subs with converters := ⟨[(5, 0), (6, 1)]⟩ } }
     6 ≠ 0 ∧ r.converter ≠ some 6 ∧ two.subs.converters.get? 6 = some 1 ∧ 1 ≠ 0) := by decide

theorem witness_AssignPort :
    let bare := { aRecord .prepared with port := none }
    let free := served bare .off State.reset
    let s : State := { free with plant := { free.plant with elements := ⟨[(2, aTap .off none)]⟩ } }
    (s.takesRequests ∧ s.slot? 0 = some bare ∧ bare.state = .prepared ∧ bare.port = none ∧
      s.port? 2 0 = some { confirmed := .off, link := none } ∧ 0 ≤ 7) ∧
    (let t := served (aRecord .disconnected) .unknown State.reset
     t.slot? 0 = some (aRecord .disconnected) ∧ (aRecord .disconnected).state = .disconnected ∧
     t.port? 2 0 = some { confirmed := .unknown, link := some 0 } ∧ Confirmed.unknown ≠ .full ∧
     Confirmed.unknown ≠ .limited ∧
     -- a move to port 1 of the tap
     (aRecord .disconnected).port = some { tap := 2, port := 0 } ∧
     ({ tap := 2, port := 0 } : PortRef) ≠ { tap := 2, port := 1 } ∧
     t.port? 2 1 = some { confirmed := .unknown, link := none }) ∧
    (let t := served (aRecord .prepared) .limited State.reset
     t.port? 2 0 = some { confirmed := .limited, link := some 0 }) ∧
    (let t := served (aRecord .suspended) .limited State.reset
     t.slot? 0 = some (aRecord .suspended) ∧ (aRecord .suspended).state = .suspended) ∧
    (let t : State := { s with plant := { s.plant with elements := ⟨[(2, aTap .off (some 5))]⟩ } }
     t.port? 2 0 = some { confirmed := .off, link := some 5 } ∧ 5 ≠ 0) := by decide

theorem witness_TiersOfARecord :
    let r := { aRecord .active with tiers := 1#32 }
    let s := linedUp .idle [] (served (aRecord .active) .full State.reset)
    let t := linedUp .idle [] (served r .full State.reset)
    (s.takesRequests ∧ s.slot? 0 = some (aRecord .active) ∧
      (∀ n, n < 32 → hasTier 1#32 n = true → (s.lineUp.tiers.get? n).isSome = true) ∧
      1#32 &&& ~~~ (aRecord .active).tiers ≠ 0 ∧ s.lineUp.tiers.get? 0 = some aTier) ∧
    (31 < 32 ∧ hasTier 0x80000000#32 31 = true ∧ s.lineUp.tiers.get? 31 = none) ∧
    (t.slot? 0 = some r ∧ 1#32 &&& r.tiers ≠ 0 ∧ 2#32 &&& r.tiers = 0) := by decide

theorem witness_CeilingAndStatement :
    let st : Statement := { service := 1, purchases := 0, purchaseCount := 0, charged := 0, credited := 0, merged := 1
                            closing := 0 }
    let r := { aRecord .active with statement := some st }
    let s := served r .full State.reset
    s.takesRequests ∧ s.slot? 0 = some r ∧ 65535 ≤ 65535 ∧ r.statement = some st ∧
    (aRecord .active).statement = none := by decide

theorem witness_ServiceChange :
    let s := served (aRecord .prepared) .off State.reset
    let bare := { aRecord .prepared with port := none }
    let full : State := { s with orders := { queue := List.replicate 64 { anOrder .queued with tap := 1 }, flight := none } }
    (s.takesRequests ∧ s.slot? 0 = some (aRecord .prepared) ∧ (aRecord .prepared).state = .prepared ∧
      (aRecord .prepared).port = some { tap := 2, port := 0 } ∧ s.canPlace 2 0) ∧
    (full.takesRequests ∧ full.slot? 0 = some (aRecord .prepared) ∧ ¬ full.canPlace 2 0) ∧
    ((served bare .off State.reset).slot? 0 = some bare ∧ bare.port = none) ∧
    (served (aRecord .active) .full State.reset).slot? 0 = some (aRecord .active) := by decide

theorem witness_OrdersPlaced :
    let s := served (aRecord .active) .full State.reset
    let free : State := { s with plant := { s.plant with elements := ⟨[(2, aTap .off none)]⟩ } }
    let full : State := { free with
      orders := { queue := List.replicate 64 { anOrder .queued with tap := 1 }, flight := none } }
    (s.takesRequests ∧ s.slot? 0 = some (aRecord .active) ∧ s.canPlace 2 0) ∧
    (free.takesRequests ∧ free.port? 2 0 = some { confirmed := .off, link := none } ∧ free.canPlace 2 0) ∧
    s.port? 2 0 = some { confirmed := .full, link := some 0 } ∧
    (full.takesRequests ∧ full.port? 2 0 = some { confirmed := .off, link := none } ∧ ¬ full.canPlace 2 0) := by decide

theorem witness_Retire :
    let r := aRecord .disconnected
    let s (r : Subscriber) (c : Confirmed) := served r c State.reset
    ((s r .off).takesRequests ∧ (s r .off).slot? 0 = some r ∧ r.state = .disconnected ∧ r.accumulator = 0 ∧ r.held = 0 ∧
      r.spell = 0 ∧ r.purchaseTotal = 0 ∧ r.statement = none ∧ (s r .off).confirmed? { tap := 2, port := 0 } = some .off ∧
      r.converter = none ∧ ({ r with converter := some 5 } : Subscriber).converter = some 5) ∧
    (let owed := { aRecord .prepared with spell := 1 }
     (s owed .off).slot? 0 = some owed ∧ owed.spell ≠ 0) ∧
    (let st : Statement := { service := 1, purchases := 0, purchaseCount := 0, charged := 0, credited := 0, merged := 1
                             closing := 0 }
     let billed := { r with statement := some st }
     (s billed .off).slot? 0 = some billed ∧ billed.statement.isSome = true) ∧
    (r.port = some { tap := 2, port := 0 } ∧ (s r .full).confirmed? { tap := 2, port := 0 } ≠ some .off) := by decide

theorem witness_ChargesOnlyAtVisits :
    let s := served (aRecord .disconnected) .off State.reset
    (∃ t, exec (.retire 1 0) s = .next t ∧ s.slot? 0 = some (aRecord .disconnected) ∧ t.slot? 0 = none) ∧
    (∃ t r, exec (.setCeiling 1 0 5) s = .next t ∧ t.slot? 0 = some r) ∧
    (∀ straps, Instr.retire 1 0 ≠ .powerOnReset straps) ∧ Instr.setCeiling 1 0 5 ≠ .accrualVisit ∧
    Instr.setCeiling 1 0 5 ≠ .periodVisit :=
  ⟨⟨_, rfl, rfl, rfl⟩, ⟨_, _, rfl, rfl⟩, fun _ h => (by cases h), by decide, by decide⟩

theorem witness_canonical : State.reset.canonical :=
  ⟨rfl, rfl, rfl, rfl, rfl, fun _ h => (by cases h), rfl, rfl⟩

theorem canonical_linedUp (e : Editor) (offers : List (Nat × Offer)) (current : Generation)
    (he : ∀ g, e.next? = some g → g.channels.wf = true) (ho : (⟨offers⟩ : Table Offer).wf = true)
    (hc : current.channels.wf = true) :
    ({ linedUp e offers State.reset with
       lineUp := { (linedUp e offers State.reset).lineUp with current := current } } : State).canonical :=
  ⟨rfl, rfl, rfl, rfl, hc, he, ho, rfl⟩

theorem witness_TierTable :
    let s := linedUp .idle [] State.reset
    let unused (e : Editor) (offers : List (Nat × Offer)) : State := { linedUp e offers State.reset with
      lineUp := { (linedUp e offers State.reset).lineUp with current := { number := 0, channels := .empty } } }
    let held : State := { s with lineUp := { s.lineUp with tiers := ⟨[(31, { aTier with holders := 1 })]⟩ } }
    (s.takesRequests ∧ s.lineUp.tiers.get? 31 = none ∧ 65535 ≤ 65535) ∧ s.lineUp.tiers.get? 0 = some aTier ∧
    ((unused .idle []).takesRequests ∧ (unused .idle []).lineUp.tiers.get? 0 = some aTier ∧ aTier.holders = 0 ∧
      (unused .idle []).lineUp.current.channels.entries = [] ∧ (unused .idle []).lineUp.editor.next? = none ∧
      (unused .idle []).lineUp.offers.entries = [] ∧ (unused .idle []).canonical) ∧
    (held.lineUp.tiers.get? 31 = some { aTier with holders := 1 } ∧ ({ aTier with holders := 1 } : Tier).holders ≠ 0) ∧
    (s.canonical ∧ s.lineUp.current.channels.get? 2 = some aChannel ∧ aChannel.tier = 0 ∧
      (∀ k, k < 2 → s.lineUp.current.channels.get? k = none)) ∧
    -- a channel of NEXT, and an offer
    ((unused (.editing aGeneration) []).canonical ∧
      (unused (.editing aGeneration) []).lineUp.editor.next? = some aGeneration ∧
      aGeneration.channels.get? 2 = some aChannel ∧ (∀ k, k < 2 → aGeneration.channels.get? k = none)) ∧
    ((unused .idle [(15, anOffer)]).canonical ∧ (unused .idle [(15, anOffer)]).lineUp.offers.get? 15 = some anOffer ∧
      anOffer.tier = 0 ∧ (∀ k, k < 15 → (unused .idle [(15, anOffer)]).lineUp.offers.get? k = none)) := by
  refine ⟨by decide, by decide, ⟨by decide, by decide, by decide, rfl, rfl, rfl, ?_⟩, by decide, ⟨?_, by decide⟩,
    ⟨?_, by decide⟩, ⟨?_, by decide⟩⟩
  · exact canonical_linedUp .idle [] _ (fun _ h => by cases h) rfl rfl
  · exact canonical_linedUp .idle [] aGeneration (fun _ h => by cases h) rfl rfl
  · exact canonical_linedUp (.editing aGeneration) [] _ (fun _ h => by cases h; rfl) rfl rfl
  · exact canonical_linedUp .idle [(15, anOffer)] _ (fun _ h => by cases h) rfl rfl

theorem witness_EditorMoves :
    let s := linedUp (.editing aGeneration) [(0, anOffer)] (clockAt 0)
    State.reset.lineUp.editor = .idle ∧
    (s.takesRequests ∧ s.lineUp.editor = .editing aGeneration ∧ s.clock.isSet = true ∧
      aGeneration.channels.entries ≠ [] ∧ s.clock.minute + 10 ≤ 10 ∧ 43200 ≤ s.clock.minute + 43200 ∧
      (s.lineUp.tiers.get? aChannel.tier).isSome = true ∧
      aGeneration.channels.entries.Pairwise (fun a b => a.2.carrier ≠ b.2.carrier ∨ a.2.program ≠ b.2.program) ∧
      aGeneration.channels.get? anOffer.channel = some aChannel ∧ aChannel.kind = .impulse ∧
      9 < s.clock.minute + 10 ∧ s.clock.minute + 43200 < 43201) ∧
    (let t := linedUp (.scheduled aGeneration 10) [] (clockAt 0)
     t.takesRequests ∧ t.lineUp.editor = .scheduled aGeneration 10 ∧ t.down.phase ≠ .next ∧
     ({ t with down := { t.down with phase := .next } } : State).down.phase = .next) := by decide

theorem witness_ChannelEdits :
    let s := linedUp (.editing aGeneration) [] State.reset
    (s.takesRequests ∧ s.lineUp.editor = .editing aGeneration ∧ s.lineUp.tiers.get? 0 = some aTier ∧
      aGeneration.channels.size < 120) ∧ (aGeneration.channels.get? 2).isSome = true ∧
    aGeneration.channels.get? 999 = none ∧ s.lineUp.tiers.get? 31 = none ∧ 3 > 2 := by decide

theorem witness_OfferTable :
    let s := linedUp .idle [] (clockAt 0)
    let o := { anOffer with price := 9999, event := 65535 }
    (s.takesRequests ∧ 15 ≤ 15 ∧ o.event ≤ 65535 ∧ o.channel = 2 ∧ o.opens < o.closes ∧ o.closes ≤ o.airEnd) ∧
    State.reset.clock.isSet = false ∧
    (s.clock.isSet = true ∧ s.clock.minute < o.airEnd ∧ s.lineUp.offers.entries = [] ∧
      s.lineUp.current.channels.get? o.channel = some aChannel ∧ aChannel.kind = .impulse ∧
      s.lineUp.editor = .idle ∧ (s.lineUp.tiers.get? o.tier).isSome = true) ∧
    o.airEnd ≤ (linedUp .idle [] (clockAt 20)).clock.minute ∧
    (linedUp .idle [(15, o)] State.reset).lineUp.offers.get? 15 = some o ∧ s.lineUp.offers.get? 15 = none := by decide

theorem witness_AddElement :
    let s := withPlantOf [(1, aNode .up)] State.reset
    newElement? 2 (some 8) = some (.tap 8) ∧ newElement? 0 none = some (.node true) ∧
    newElement? 1 (some 0) = some (.amplifier false) ∧
    (s.takesRequests ∧ 1023 ≤ 1023 ∧ 62 ≤ 62 ∧ 254 ≤ 254 ∧ s.element? 1023 = none ∧ s.element? 1 = some (aNode .up) ∧
      (aNode .up).role.kind ≠ .tap) ∧
    (∀ p, p ∈ s.plant.elements.entries → ¬ (p.2.group = 62 ∧ p.2.member = 254)) ∧
    (∃ p, p ∈ s.plant.elements.entries ∧ p.2.group = 1 ∧ p.2.member = 1) ∧
    (s.plant.firstChild 1 = none ∧ (s.plant.children 0).getLast? = some 1) := by decide

theorem witness_RemoveElement :
    let s := withPlantOf [(1, aNode .up)] State.reset
    (s.takesRequests ∧ s.element? 1 = some (aNode .up) ∧ (aNode .up).firstChild = none ∧
      (∀ p, p ∈ (aNode .up).role.ports → p.link = none) ∧ (∀ o, o ∈ s.orders.queue → o.tap ≠ 1)) ∧
    (s.plant.walk = .idle ∧ 1 ∉ s.plant.queue ∧ (aNode .up).mark = .none ∧ s.up.window = none ∧ s.poll.flight = none) ∧
    s.plant.firstChild 0 = some 1 ∧
    -- the last element of a round whose timer has EXPIRED is removed
    (s.plant.elements.wf = true ∧ (aNode .up).inRound = true ∧
      (let x : State := { s with poll := { s.poll with expired := true } }
       x.takesRequests ∧ x.element? 1 = some (aNode .up) ∧ x.poll.position ≤ 1)) ∧
    (let two := withPlantOf [(1, { aNode .up with nextSibling := some 3 }), (3, { aNode .up with member := 3 })] State.reset
     two.element? 3 = some { aNode .up with member := 3 } ∧ two.plant.firstChild 0 ≠ some 3 ∧
     two.element? 1 = some { aNode .up with nextSibling := some 3 }) ∧
    ((polled .up).takesRequests ∧ (polled .up).element? 1 = some (aNode .up) ∧ (polled .up).poll.flight.isSome = true) ∧
    (let w := { s with plant := { s.plant with walk := .rederive 0 [] } }
     w.element? 1 = some (aNode .up) ∧ w.plant.walk ≠ .idle) := by decide

theorem witness_VisitStep :
    let e := { aNode .up with parent := 1 }
    let s := withPlantOf [(1, { aNode .failed with dark := true }), (2, aTap .off none), (3, e)] State.reset
    s.element? 3 = some e ∧ e.role.poll? = some (aPoll .up) ∧ s.element? 2 = some (aTap .off none) ∧
    (aTap .off none).role = .tap (aTap .off none).role.ports := by decide

theorem witness_WalkVisits :
    let below := { aNode .up with parent := 1, member := 3 }
    let top := { aNode .failed with firstChild := some 3 }
    let s (w : PlantWalk) : State := { withPlantOf [(1, top), (3, below)] State.reset with
      plant := { State.reset.plant with rootFirst := some 1, elements := ⟨[(1, top), (3, below)]⟩, walk := w } }
    (let t := s (.propagation (anOwing .none) none)
     t.plant.walk = .propagation (anOwing .none) none ∧ t.element? 1 = some top) ∧
    (let t := s (.propagation (anOwing .outage) (some 1))
     t.plant.after 1 1 = some 3 ∧ 3 ≠ 1 ∧ t.element? 3 = some below) ∧
    (let t := s (.rederive 0 [])
     t.plant.walk = .rederive 0 [] ∧ t.plant.after 0 0 = some 1 ∧ ((t.visit 1).1.element? 1).map (fun e => e.mark) =
       some .none) ∧
    (let t := s (.rederive 1 [anOwing .outage])
     t.plant.after 0 1 = some 3 ∧ t.plant.after 0 3 = none ∧ t.element? 3 = some below) ∧
    (let marked := { aNode .failed with mark := .outage }
     let t : State := { withPlantOf [(1, marked)] State.reset with
       plant := { (withPlantOf [(1, marked)] State.reset).plant with walk := .rederive 0 [] } }
     t.plant.after 0 0 = some 1 ∧ t.element? 1 = some marked ∧ t.plant.after 0 1 = none ∧
     ((t.visit 1).1.element? 1).map (fun e => e.mark) = some .outage) := by decide

theorem witness_WalkEnds :
    let top := aNode .failed
    let s (own : Owing) (q : List Nat) (r : Bool) : State := { State.reset with
      plant := { rootFirst := some 1, elements := ⟨[(1, top)]⟩, queue := q, rederive := r
                 walk := .propagation own (some 1) } }
    ((s (anOwing .none) [] false).plant.walk = .propagation (anOwing .none) (some 1) ∧
      (s (anOwing .none) [] false).plant.after 1 1 = none) ∧
    (anOwing .outage).mark = .outage ∧ (anOwing (.restored .answer)).mark = .restored .answer ∧
    (s (anOwing .outage) [1] false).plant.queue = 1 :: [] ∧
    ((s (anOwing .outage) [] true).plant.queue = [] ∧ (s (anOwing .outage) [] true).plant.rederive = true) ∧
    (let t := { s (anOwing .none) [] false with
       plant := { (s (anOwing .none) [] false).plant with walk := .rederive 1 [] } }
     t.plant.walk = .rederive 1 [] ∧ t.plant.after 0 1 = none) := by decide

theorem witness_PollSettings :
    let s := withPlantOf [(1, aNode .up), (2, aTap .off none)] State.reset
    (s.takesRequests ∧ 3 ≤ 3 ∧ 15 ≤ 15 ∧ 600 ≤ 600) ∧ 3 < 4 ∧ 15 < 16 ∧ 4 < 5 ∧ 600 < 601 ∧
    (s.element? 1 = some (aNode .up) ∧ (aNode .up).role.poll? = some (aPoll .up) ∧ (-200 : Int) ≤ 200 ∧
      (199 : Int) < 200 ∧ 30 ≤ 30) ∧
    (s.element? 2 = some (aTap .off none) ∧ (aTap .off none).role.kind = .tap) ∧
    (s.poll.expired = false ∧ s.leftInRound.isSome = true ∧ State.reset.leftInRound = none) := by decide

theorem witness_SetPolling :
    let s (st : PollState) := withPlantOf [(1, aNode st)] State.reset
    let off : PollRecord := { aPoll .off with enable := false }
    let e := { aNode .off with role := .node off }
    let t := withPlantOf [(1023, e)] State.reset
    ((s .up).takesRequests ∧ (s .up).element? 1 = some (aNode .up) ∧ (aNode .up).role.poll? = some (aPoll .up) ∧
      (aPoll .up).enable = true ∧ (aPoll .up).state ≠ .failed) ∧
    ((s .failed).element? 1 = some (aNode .failed) ∧ (aPoll .failed).state = .failed ∧ (s .failed).plant.walk = .idle ∧
      (s .failed).plant.queue = [] ∧ (s .failed).plant.rederive = false) ∧
    -- a FAILED element withdrawn while a walk runs: not queued, queued, with the queue full, with the flag set
    (let busy (q : List Nat) (flag : Bool) : State := { (s .failed) with
       plant := { (s .failed).plant with queue := q, rederive := flag, walk := .rederive 0 [] } }
     ∀ q ∈ [[], [1], List.range' 2 15, List.range' 2 16], ∀ flag ∈ [false, true],
       (busy q flag).takesRequests ∧ (busy q flag).element? 1 = some (aNode .failed) ∧
       (busy q flag).plant.walk ≠ .idle) ∧
    (let flagged : State := { (s .failed) with plant := { (s .failed).plant with rederive := true } }
     flagged.plant.walk = .idle ∧ flagged.plant.queue = [] ∧ flagged.element? 1 = some (aNode .failed)) ∧
    (t.element? 1023 = some e ∧ e.role.poll? = some off ∧ off.enable = false ∧ e.shadow = false ∧
      1023 ∉ t.poll.verify) ∧
    -- the last element of a round whose timer has EXPIRED is withdrawn, and one that is not the last
    (let two := withPlantOf [(1, aNode .up), (3, aNode .up)] State.reset
     (s .up).plant.elements.wf = true ∧ two.element? 3 = some (aNode .up) ∧ (aNode .up).inRound = true ∧
     two.poll.position ≤ 3 ∧ ({ two.poll with expired := true } : PollEngine).expired = true) := by decide

theorem witness_PollAnswered :
    let s := polled .failed
    let w : ReplyWindow := { kind := .poll, element := 1, group := 1, member := 1, timer := 60 }
    let f : PollFlight := { element := 1, opened := true, void := false }
    (s.takesFrames ∧ s.systemCode.isSome = true ∧ 62 ≤ 62 ∧ 1 ≤ 1 ∧ s.up.window = some w ∧ w.kind = .poll ∧
      s.poll.flight = some f ∧ f.void = false ∧ s.element? 1 = some (aNode .failed) ∧
      (aNode .failed).role.poll? = some (aPoll .failed) ∧ (aPoll .failed).state.inRound = true) ∧
    ((polled .up).element? 1 = some (aNode .up) ∧ (aPoll .up).power = .mains ∧
      (aPoll .up).levelState.evaluate 0 (-40) 40 10 = .normal ∧
      (aPoll .up).levelState.evaluate (-41) (-40) 40 10 = .low) := by decide

theorem witness_WindowExpires :
    let s := polled .up
    let o := { anOrder .sent with attempts := 2 }
    (s.up.window.map (fun w => w.kind) = some .poll ∧
      s.poll.flight = some { element := 1, opened := true, void := false } ∧ s.element? 1 = some (aNode .up)) ∧
    -- at a miss limit of 1 this miss fails the element, and below the limit of 3 it does not
    (s.poll.missLimit = 3 ∧ (aPoll .up).misses = 0 ∧
      (let one : State := { s with poll := { s.poll with missLimit := 1 } }
       one.element? 1 = some (aNode .up) ∧ one.poll.flight = s.poll.flight)) ∧
    (let t := inFlight o State.reset
     t.up.window.map (fun w => w.kind) = some .order ∧ t.plant.dark 2 = false ∧ t.order? 2 0 = some o ∧
     o.attempts = 2 ∧ t.port? 2 0 = some { confirmed := .off, link := some 0 } ∧ o.followOn = none) ∧
    (let t := inFlight (anOrder .sent) State.reset
     t.order? 2 0 = some (anOrder .sent) ∧ (anOrder .sent).attempts < 2 ∧
     (let dark := { t with plant := { t.plant with elements := ⟨[(2, { aTap .off (some 0) with dark := true })]⟩ } }
      dark.plant.dark 2 = true)) := by decide

theorem witness_ordersAgree : (inFlight (anOrder .sent) State.reset).ordersAgree := by
  refine ⟨by decide, by decide, ?_⟩
  exact ⟨by decide, by decide, by decide, by decide, by decide, by decide⟩

theorem witness_OrderReplied :
    let s := inFlight (anOrder .sent) State.reset
    (s.takesFrames ∧ s.systemCode.isSome = true ∧ 1 ≤ 62 ∧ [(0, 1), (7, 0)].length ≤ 8 ∧
      (∀ r, r ∈ [(0, 1), (7, 0)] → r.1 ≤ 7 ∧ r.2 ≤ 1) ∧ s.up.window.map (fun w => w.kind) = some .order) ∧
    (s.orders.flight.map (fun f => f.ports) = some [0] ∧ s.order? 2 0 = some (anOrder .sent) ∧
      s.port? 2 0 = some { confirmed := .off, link := some 0 } ∧
      [(0, 1), (7, 0)].find? (fun r => r.1 == 0) = some (0, 1)) ∧
    (let t := inFlight { anOrder .sent with followOn := some .off } State.reset
     t.order? 2 0 = some { anOrder .sent with followOn := some .off }) := by decide

theorem witness_HoldTaken :
    let s := inFlight (anOrder .sent) State.reset
    let w : ReplyWindow := { kind := .order, element := 2, group := 1, member := 2, timer := 250 }
    let f : OrderFlight := { tap := 2, ports := [0], opened := true, holds := 2 }
    let held (n : Nat) : State := { s with orders := { s.orders with flight := some { f with holds := n } } }
    (held 2).takesFrames ∧ (held 2).systemCode.isSome = true ∧ w.group ≤ 62 ∧ (held 2).up.window = some w ∧
    w.kind = .order ∧ (held 2).orders.flight = some f ∧ f.holds < 3 ∧
    (held 3).orders.flight = some { f with holds := 3 } ∧ 3 ≤ ({ f with holds := 3 } : OrderFlight).holds := by decide

theorem firstAbove_aGeneration : aGeneration.firstAbove none 2 aChannel :=
  ⟨rfl, rfl, fun _ h => (by cases h), by decide⟩

theorem noneAbove_aGeneration : aGeneration.noneAbove (some 2) := by
  intro k h
  have hk : 2 < k := h 2 rfl
  show (if 2 = k then some aChannel else none) = none
  rw [if_neg (by omega)]

theorem witness_TransmissionEnds :
    let sent (f : DownFrame) : State :=
      { State.reset with systemCode := some 1, down := { State.reset.down with transmission := some ⟨.poll, f⟩ } }
    (sent (.poll 1 1 1)).down.transmission = some ⟨.poll, .poll 1 1 1⟩ ∧
    (sent (.order 2 1 2 [])).down.transmission = some ⟨.poll, .order 2 1 2 []⟩ ∧
    (sent (.time 0 false 0)).down.transmission = some ⟨.poll, .time 0 false 0⟩ ∧
    ({ sent (.time 0 false 0) with down := { (sent (.time 0 false 0)).down with mapGap := 7 } } : State).down.mapGap =
      7 ∧
    (let s : State := { sent (.time 0 false 0) with
       down := { (sent (.time 0 false 0)).down with mapGap := 6, expedite := [.refresh 4, .disable 9] } }
     s.windowFree = true ∧ s.canBuild = false ∧ s.pollDue = false ∧ s.down.mapGap ≠ 7 ∧
     s.expediteHead s.down.expedite = some (.disable 9, [])) := by decide

/-- The stream the arbiter grants at the end of a transmission. -/
def granted (s : State) : Option Stream := (after .transmissionEnd s).down.transmission.map (fun tr => tr.stream)

/-- A state at the end of a TIME frame, its map gap and Expedite List as given. -/
def ending (mapGap : Nat) (l : List ExpediteEntry) (s : State) : State :=
  { s with systemCode := some 1
           down := { s.down with mapGap := mapGap, expedite := l, transmission := some ⟨.map, .time 0 false 0⟩ } }

theorem witness_TransmissionEnds_expedite :
    let r := { aRecord .active with converter := some 5 }
    let s (e : ExpediteEntry) : State := ending 0 [e, .disable 9] (served r .full State.reset)
    (∀ e, e ∈ [ExpediteEntry.refresh 0, .disable 6, .decline 0 1 .window] → granted (s e) = some .expedite) ∧
    (s (.refresh 0)).down.expedite = .refresh 0 :: [.disable 9] ∧ (s (.refresh 0)).slot? 0 = some r ∧
    r.converter = some 5 ∧ (s (.disable 6)).subs.converters.get? 6 = none := by decide

theorem witness_TransmissionEnds_discards :
    let s (e : ExpediteEntry) : State := ending 6 [e, .disable 9]
      { served { aRecord .active with converter := some 5 } .full State.reset with plant := State.reset.plant }
    (∀ e, e ∈ [ExpediteEntry.refresh 4, .disable 5, .decline 4 1 .window] →
      (s e).canBuild = false ∧ (s e).pollDue = false ∧ (s e).down.mapGap ≠ 7 ∧
      (after .transmissionEnd (s e)).down.transmission = some ⟨.expedite, .disable 9⟩) ∧
    (s (.refresh 4)).slot? 4 = none ∧ ((s (.disable 5)).subs.converters.get? 5).isSome = true := by decide

theorem witness_TransmissionEnds_windows :
    let orders : State := ending 0 [] { served (aRecord .active) .off State.reset with
      orders := { queue := [{ anOrder .held with tap := 3 }, anOrder .queued], flight := none } }
    let polls (verify : List Nat) (expired : Bool) : State :=
      ending 0 [] { withPlantOf [(1, aNode .up), (2, aTap .off none)] State.reset with
        poll := { State.reset.poll with verify := verify, expired := expired } }
    (granted orders = some .order ∧
      orders.orders.queue = [{ anOrder .held with tap := 3 }] ++ anOrder .queued :: [] ∧
      (∀ x, x ∈ [{ anOrder .held with tap := 3 }] → x.state ≠ .queued) ∧
      orders.element? 2 = some (aTap .off (some 0))) ∧
    (granted (polls [1] false) = some .poll ∧ (polls [1] false).poll.verify = 1 :: [] ∧
      (polls [1] false).poll.expired = false) ∧
    (granted (polls [] true) = some .poll ∧ (polls [] true).poll.verify = [] ∧
      (polls [] true).plant.elements.wf = true ∧ (polls [] true).poll.position ≤ 1 ∧
      (polls [] true).element? 1 = some (aNode .up) ∧ (aNode .up).inRound = true ∧
      (polls [] true).poll.expired = true ∧ (polls [] true).element? 2 = some (aTap .off none) ∧
      (aTap .off none).inRound = false) := by decide

theorem witness_TransmissionEnds_map :
    let s (phase : MapPhase) (last : Option Nat) (e : Editor) : State :=
      { ending 7 [] (linedUp e [] State.reset) with
        down := { (ending 7 [] State.reset).down with phase := phase, lastChannel := last } }
    (∀ x, x ∈ [s .time none .idle, s .current none .idle, s .current (some 2) (.scheduled aGeneration 30),
        s .next none (.scheduled aGeneration 30), s .current (some 2) .idle, s .next (some 2) (.scheduled aGeneration 30)] →
      granted x = some .map ∧ x.lineUp.current = aGeneration) ∧
    aGeneration.firstAbove none 2 aChannel ∧ aGeneration.noneAbove (some 2) :=
  ⟨by decide, firstAbove_aGeneration, noneAbove_aGeneration⟩

theorem witness_CarouselSends :
    let r := { aRecord .active with converter := some 5 }
    let s : State := { State.reset with subs := { State.reset.subs with slots := ⟨[(0, aRecord .active), (4094, r)]⟩ } }
    (s.subs.slots.wf = true ∧ s.slot? 4094 = some r ∧ r.converter = some 5 ∧ 4094 < 4095 ∧ s.down.cursor ≤ 4094 ∧
      (∀ p, p ∈ s.subs.slots.entries → p.1 < 4094 → p.2.converter = none)) ∧
    -- slot 4,095 at the cursor, the wrap to slot 0, and no converter at all
    (let t (n cursor : Nat) (r : Subscriber) : State := ending 6 [.refresh 4] { State.reset with
       subs := { State.reset.subs with slots := ⟨[(n, r)]⟩ }, down := { State.reset.down with cursor := cursor } }
     (∀ x, x ∈ [t 4095 4095 r, t 0 5 r, t 0 0 (aRecord .active)] → x.down.transmission.isSome = true ∧ x.down.mapGap ≠ 7 ∧
       x.canBuild = false ∧ x.pollDue = false ∧ x.expediteHead x.down.expedite = none ∧ x.subs.slots.wf = true) ∧
     ((t 4095 4095 r).slot? 4095 = some r ∧ (t 4095 4095 r).down.cursor ≤ 4095) ∧
     ((t 0 5 r).slot? 0 = some r ∧ (∀ p, p ∈ (t 0 5 r).subs.slots.entries → 5 ≤ p.1 → p.2.converter = none)) ∧
     (∀ p, p ∈ (t 0 0 (aRecord .active)).subs.slots.entries → p.2.converter = none)) := by decide

theorem witness_WriteBarrier :
    let s : State := { State.reset with down := { State.reset.down with cursor := 5, expedite := [.refresh 4] } }
    let full (l : List ExpediteEntry) : State := { s with down := { s.down with expedite := l } }
    (s.down.cursor ≤ 5 ∧ s.down.onWire 5 = false) ∧ (4 < s.down.cursor ∧ .refresh 4 ∈ s.down.expedite) ∧
    (3 < s.down.cursor ∧ .refresh 3 ∉ s.down.expedite ∧ s.down.expedite.length < 32) ∧
    (let t := full ((List.range 32).map (fun n => .disable (n + 10)))
     .refresh 3 ∉ t.down.expedite ∧ 32 ≤ t.down.expedite.length ∧ .disable 10 ∈ t.down.expedite ∧
     .disable 9 ∉ t.down.expedite ∧ (∀ e, e ∈ t.down.expedite → e.isRefresh = false)) ∧
    .disable 9 ∉ s.down.expedite ∧
    (let before : List ExpediteEntry := (List.range 31).map (fun n => .disable (n + 10))
     let t := full (before ++ [.refresh 3])
     .disable 9 ∉ t.down.expedite ∧ 32 ≤ t.down.expedite.length ∧ t.down.expedite = before ++ .refresh 3 :: [] ∧
     (∀ e, e ∈ before → e.isRefresh = false)) ∧
    -- a DECLINE held with another reason, room for one, and a full list with and without a REFRESH
    (let d := ExpediteEntry.decline 3 1 .window
     (full [.refresh 4, d]).down.expedite = [.refresh 4] ++ d :: [] ∧ (∀ x, .decline 3 1 x ∉ [ExpediteEntry.refresh 4]) ∧
     (∀ x, .decline 3 1 x ∉ s.down.expedite) ∧ s.down.expedite.length < 32 ∧
     (∀ x, ExpediteEntry.decline 3 1 x ∉ (List.range 31).map (fun n => ExpediteEntry.disable (n + 10)) ++ [.refresh 3]) ∧
     (∀ x, ExpediteEntry.decline 3 1 x ∉ (List.range 32).map (fun n => ExpediteEntry.disable (n + 10)))) := by
  refine ⟨by decide, by decide, by decide, by decide, by decide, by decide, by decide, ?_, ?_, by decide, ?_, ?_⟩ <;>
    intro x <;> simp

theorem witness_UpstreamRoundTrip : 65535 < 65536 ∧ 255 < 256 ∧ (-32768 : Int) ≤ -32768 ∧ (32767 : Int) ≤ 32767 ∧
    16777215 < 16777216 ∧ (List.replicate 255 (255, 255)).length < 256 ∧
    (∀ r, r ∈ [(255, 255)] → r.1 < 256 ∧ r.2 < 256) := by decide +kernel

theorem witness_FrameChecks :
    let s : State := { State.reset with systemCode := some 4660 }
    let w : ReplyWindow := { kind := .poll, element := 1, group := 1, member := 2, timer := 25 }
    let taking (x : Reception) : State := { s with up := { s.up with reception := x } }
    (restarting s).restarting = true ∧ (taking .abandoned).up.reception = .abandoned ∧
    (taking .taking).up.reception = .taking ∧ (s.takesFrames ∧ parseUpstream [1, 2, 3] = none) ∧
    (parseUpstream (withCheck [0, 1, 0x83]) = some (some 1, none) ∧ s.systemCode ≠ some 1) ∧
    parseUpstream (withCheck [0x12, 0x34, 0x84]) = some (some 4660, none) ∧
    (parseUpstream (UpFrame.bytes 4660 (.hold 63 0)) = some (some 4660, some (.hold 63 0)) ∧
      (UpFrame.hold 63 0).valid = false) ∧
    (s.systemCode.isSome = true ∧ 62 ≤ 62 ∧ s.up.window = none ∧
      ({ s with up := { s.up with late := some { kind := .poll, group := 62, member := 255 } } } : State).up.late =
        some { kind := .poll, group := 62, member := 255 } ∧
      s.up.late ≠ some { kind := .poll, group := 62, member := 255 } ∧
      ¬ (w.kind = .poll ∧ w.group = 62 ∧ w.member = 255)) := by decide +kernel

theorem witness_PurchaseTaken :
    let r := { aRecord .active with converter := some 5, tiers := 1#32 }
    let s (r : Subscriber) (offers : List (Nat × Offer)) (m : Nat) : State :=
      linedUp .idle offers (served r .full { clockAt m with systemCode := some 4660 })
    let o := { anOffer with price := 2000 }
    let t := s r [(0, o)] 9
    (t.takesFrames ∧ t.systemCode.isSome = true ∧ t.lineUp.offers.wf = true ∧ t.slot? 0 = some r) ∧
    t.subs.converters.get? 1 = none ∧ t.subs.converters.get? 5 = some 0 ∧
    ((s (aRecord .suspended) [] 0).slot? 0 = some (aRecord .suspended) ∧ (aRecord .suspended).state ≠ .active) ∧
    (let again := { r with purchases := [1] }
     (s again [] 0).slot? 0 = some again ∧ 1 ∈ again.purchases) ∧
    ((s r [] 0).lineUp.offers.entries = [] ∧ 1 ∉ r.purchases) ∧
    (t.lineUp.offers.get? 0 = some o ∧ (∀ p, p ∈ t.lineUp.offers.entries → p.1 = 0)) ∧
    o.closes ≤ (s r [(0, o)] 10).clock.minute ∧ (o.opens ≤ t.clock.minute ∧ t.clock.minute < o.closes) ∧
    hasTier (aRecord .active).tiers o.tier = false ∧ hasTier r.tiers o.tier = true ∧
    4 ≤ ({ r with purchases := [2, 3, 4, 5] } : Subscriber).purchases.length ∧
    r.ceiling < r.purchaseTotal + ({ o with price := 2001 } : Offer).price ∧ r.purchaseTotal + o.price ≤ r.ceiling := by
  decide

theorem witness_AccrualVisit :
    let s (r : Subscriber) (dark : Bool) : State :=
      { withPlantOf [(2, { aTap .full (some 4095) with dark := dark })] State.reset with
        subs := { State.reset.subs with slots := ⟨[(4095, { r with port := some { tap := 2, port := 0 } })]⟩ }
        accrual := { State.reset.accrual with length := some 30, walk := .accrual 15, position := 4095 } }
    let r := aRecord .active
    ((s r false).accrual.walk = .accrual 15 ∧ (s r false).subs.slots.wf = true ∧ (s r false).slot? 4095 = some r ∧
      (s r false).accrual.position ≤ 4095) ∧
    ((s r false).eligible r = true ∧ (s r false).tapDark r = false ∧ r.spell = 0) ∧
    (0 < ({ r with spell := 15 } : Subscriber).spell ∧ 15 < (s r false).accrual.threshold) ∧
    ((s r true).eligible r = true ∧ (s r true).tapDark r = true) ∧
    (14 + 1 < (s r true).accrual.threshold ∧ 15 + 1 = (s r true).accrual.threshold ∧
      (s r true).accrual.threshold < 16 + 1) ∧ (s (aRecord .suspended) false).eligible (aRecord .suspended) = false ∧
    (let full := { r with accumulator := 281474976710655, weight := 1 }
     full.saturated = false ∧ ((s full false).accrue full).saturated = true) ∧
    (let long := { r with spell := 65535 }
     (s long true).tapDark long = true ∧ (s long true).accrual.threshold < min 65535 (long.spell + 1)) := by decide

theorem witness_Closing : (aRecord .active).statement = none ∧ 65535 ≤ 65535 ∧ 28 ≤ 28 ∧ 31 ≤ 31 := by decide

/-- One dark visit and then lit ones: how many, that the last is lit, and that no dark run is longer than one. -/
theorem one_dark_visit (n : Nat) :
    (false :: List.replicate (n + 1) true).length = n + 2 ∧
    (false :: List.replicate (n + 1) true).getLast? = some true ∧
    ∀ before run after, false :: List.replicate (n + 1) true = before ++ run ++ after → run ≠ [] →
      (∀ b, b ∈ run → b = false) → run.length < 2 := by
  refine ⟨by simp, by simp [List.getLast?_cons, List.getLast?_replicate], fun before run after h _ dark => ?_⟩
  have one : (false :: List.replicate (n + 1) true).count false = 1 := by simp [List.count_replicate]
  have all : run.count false = run.length := List.count_eq_length.mpr fun b hb => (dark b hb).symm
  simp only [h, List.count_append] at one
  omega

/-- A period of 28 days of a record with one tier at the greatest rate: the first visit dark, every other lit. -/
theorem witness_Closing_period :
    let rates := [65535]
    let r := { aRecord .active with weight := 409038262 }
    let visits := false :: List.replicate 2687 true
    (rates.length ≤ 32 ∧ ∀ x, x ∈ rates → x ≤ 65535) ∧ r.accumulator = 0 ∧ r.held = 0 ∧ r.spell = 0 ∧
    r.weight = (rates.map (fun x => perTick x 28)).sum ∧ visits.length = ticksOf 28 ∧ visits.getLast? = some true ∧
    (∀ before run after, visits = before ++ run ++ after → run ≠ [] → (∀ b, b ∈ run → b = false) → run.length < 2) ∧
    r.statement = none := by
  have visits := one_dark_visit 2686
  exact ⟨by decide, rfl, rfl, rfl, by decide, visits.1, visits.2.1, visits.2.2, rfl⟩

theorem witness_PeriodVisit :
    let s (closing : Bool) (r : Subscriber) : State :=
      { State.reset with
        subs := { State.reset.subs with slots := ⟨[(4095, r)]⟩ }
        accrual := { State.reset.accrual with
          length := some 30, sequence := 1, threshold := 12, walk := .period 16 closing 0 0, position := 4095 } }
    let r := aRecord .active
    ((s true r).restarting = false ∧ (s true r).accrual.walk = .period 16 true 0 0 ∧ (s true r).subs.slots.wf = true ∧
      (s true r).slot? 4095 = some r ∧ (s true r).accrual.position ≤ 4095) ∧
    (r.periodTag ≠ (s true r).accrual.sequence ∧ (s false r).accrual.walk = .period 16 false 0 0) ∧
    (let new := { r with periodTag := 1 }
     (s true new).slot? 4095 = some new ∧ new.periodTag = (s true new).accrual.sequence) ∧
    (r.spell = 0 ∧ 11 < (s true r).accrual.threshold ∧ (s true r).accrual.threshold ≤ 12 ∧ 12 < 16 ∧ 16 ≤ 16) := by
  decide

theorem witness_AccrualWalksEnd :
    let s (w : AccrualWalk) (p tick : Option Nat) : State := { State.reset with accrual := { State.reset.accrual with
      length := some 30, walk := w, pendingPeriod := p, pendingTick := tick } }
    (∀ x, x ∈ [s (.accrual 15) (some 31) none, s (.accrual 15) none (some 30), s (.accrual 15) none none,
        s (.period 16 true 1 0) none none, s (.period 16 true 1 0) none (some 30)] →
      x.restarting = false ∧ x.nextSlot x.accrual.position = none) ∧
    (s (.accrual 15) (some 31) none).accrual.pendingPeriod = some 31 ∧
    (s (.period 16 true 1 0) none (some 30)).accrual.pendingTick = some 30 ∧
    (linedUp .idle [] (s (.accrual 15) (some 31) none)).lineUp.tiers.get? 0 = some aTier := by decide

theorem witness_StartPeriod :
    let s (w : AccrualWalk) (p : Option Nat) : State :=
      { clockAt 0 with accrual := { State.reset.accrual with walk := w, pendingPeriod := p } }
    ((s .none none).takesRequests ∧ (s .none none).clock.isSet = true ∧ (s .none none).accrual.walk = .none ∧ 28 ≤ 28 ∧
      31 ≤ 31) ∧ (s (.accrual 15) none).accrual.walk = .accrual 15 ∧
    (s .none (some 28)).accrual.pendingPeriod.isSome = true ∧
    (s (.period 16 true 0 0) none).accrual.walk.previous?.isSome = true ∧ State.reset.clock.isSet = false ∧ 192 ≤ 192 :=
  by decide

/-- A held notice of a priority about a slot. -/
def aNotice (p : Priority) (slot : Nat) : Notice :=
  { body := (match p with | .urgent => .outage 1 1 | .routine => .disableLost | .info => .switchoverDone 1)
    subject := .slot slot, first := 1, last := 1, count := 255 }

theorem witness_NoticePosted :
    let l := (List.range 62).map (aNotice .urgent)
    let q := l ++ [aNotice .routine 5, aNotice .routine 6]
    ((aNotice .urgent 3).body.family = (NoticeBody.restored 1 1 .answer).family ∧
      [aNotice .info 1, aNotice .urgent 3] = [aNotice .info 1] ++ aNotice .urgent 3 :: [] ∧
      (∀ m, m ∈ [aNotice .info 1] →
        ¬ (m.body.family = (NoticeBody.restored 1 1 .answer).family ∧ m.subject = .slot 3))) ∧
    (∀ m, m ∈ q → ¬ (m.body.family = (NoticeBody.power .mains .standby).family ∧ m.subject = .slot 99)) ∧
    [aNotice .info 1].length < 64 ∧
    (64 ≤ q.length ∧ q = l ++ aNotice .routine 5 :: [aNotice .routine 6] ∧
      (aNotice .routine 5).body.priority.rank < (NoticeBody.power .mains .standby).priority.rank ∧
      (∀ m, m ∈ l → (aNotice .routine 5).body.priority.rank < m.body.priority.rank) ∧
      (∀ m, m ∈ [aNotice .routine 6] → (aNotice .routine 5).body.priority.rank ≤ m.body.priority.rank)) ∧
    ((NoticeBody.switchoverDone 1).family = .switchoverDone ∧
      (∀ m, m ∈ q → (NoticeBody.switchoverDone 1).priority.rank ≤ m.body.priority.rank)) := by decide

theorem witness_NoticesAndAlarm :
    let s (l : List Notice) : State := { State.reset with notices := { State.reset.notices with held := l } }
    let l := [aNotice .info 1, aNotice .urgent 2, aNotice .urgent 3]
    (s l).takesRequests ∧ (s l).notices.held = [aNotice .info 1] ++ aNotice .urgent 2 :: [aNotice .urgent 3] ∧
    (∀ m, m ∈ [aNotice .info 1] → m.body.priority.rank < (aNotice .urgent 2).body.priority.rank) ∧
    (∀ m, m ∈ [aNotice .urgent 3] → m.body.priority.rank ≤ (aNotice .urgent 2).body.priority.rank) ∧
    (s []).notices.held = [] := by decide

/-- A state with one waiting command. -/
def waiting (c : Instr) (s : State) : State := { s with pending := [c] }

/-- The only element of a table is element 1. -/
theorem element_of_one {x e : Element} {i : Nat} (h : lookupIn i [(1, x)] = some e) : i = 1 ∧ e = x := by
  simp only [lookupIn] at h
  split at h
  · cases h; exact ⟨(‹1 = i›).symm, rfl⟩
  · cases h

/-- A state with the clock set, a tick walk, and one element. -/
def running : State :=
  { withPlantOf [(1, aNode .up)] (clockAt 14) with accrual := { State.reset.accrual with
      length := some 30, walk := .accrual 15, pendingTick := some 30 } }

theorem witness_ranged : running.ranged :=
  ⟨fun _ _ h => (by cases h), fun _ _ h => (by cases h), ⟨by decide, by decide, fun _ _ h => (by cases h)⟩,
    fun _ h => (by cases h), fun _ _ h => (by cases h),
    fun i e h => (by
      obtain ⟨-, rfl⟩ := element_of_one h
      exact ⟨by decide, by decide, by decide, by decide, fun h => (by cases h), fun p h => (by cases h; decide)⟩),
    fun _ h => (by cases h), by decide, by decide, by decide, by decide, by decide, by decide, by decide, by decide, by decide,
    fun _ h => (by cases h), fun _ h => (by cases h; decide), fun _ h => (by cases h), by decide, by decide, by decide,
    by decide, fun _ h => (by cases h; decide), fun _ h => (by cases h; decide), fun _ _ _ _ h => (by cases h)⟩

theorem witness_FormAndLimitsKept :
    let s := waiting .minuteEvent running
    (s.canonical ∧ s.numbered ∧ s.limited ∧ s.ranged ∧ s.clocked) ∧ ∃ t, step s = .next t := by
  refine ⟨⟨⟨rfl, rfl, rfl, rfl, rfl, fun _ h => (by cases h), rfl, rfl⟩,
    ⟨fun _ _ h => (by cases h), fun _ _ h => (by cases h), fun _ _ h => (by cases h), fun i e h => ?_⟩,
    (by unfold State.limited; decide), witness_ranged, ⟨by decide, by decide, fun _ h => (by cases h), by decide⟩⟩, _, rfl⟩
  obtain ⟨rfl, rfl⟩ := element_of_one h; decide

/-- One element under the root is a tree. -/
theorem witness_treeShaped (st : PollState) : (withPlantOf [(1, aNode st)] State.reset).treeShaped := by
  refine ⟨fun i e h => .inl ?_, fun i e h => ?_, fun p => ?_, fun p i hp => ?_, fun i j e x h h' _ _ => ?_⟩
  · obtain ⟨-, rfl⟩ := element_of_one h; rfl
  · obtain ⟨rfl, -⟩ := element_of_one h; rfl
  · by_cases h0 : p = 0
    · subst h0; show ([1] : List Nat).Nodup; decide
    · have : (withPlantOf [(1, aNode st)] State.reset).plant.firstChild p = none := by
        by_cases h1 : p = 1
        · subst h1; rfl
        · simp [PlantTree.firstChild, h0, withPlantOf, Table.get?, lookupIn, Ne.symm h1]
      simp [PlantTree.children, this, PlantTree.siblings]
  · by_cases h0 : p = 0
    · subst h0
      refine ⟨fun h => ?_, fun ⟨e, h, _⟩ => ?_⟩
      · have h' : i ∈ [1] := h
        exact ⟨aNode st, by rw [List.mem_singleton.mp h']; rfl, rfl⟩
      · obtain ⟨rfl, -⟩ := element_of_one h; exact List.mem_singleton.mpr rfl
    · obtain ⟨x, hx⟩ := Option.isSome_iff_exists.mp (hp.resolve_left h0)
      obtain ⟨rfl, -⟩ := element_of_one hx
      refine ⟨fun h => (by cases h), fun ⟨e, h, he⟩ => ?_⟩
      obtain ⟨-, rfl⟩ := element_of_one h; cases he
  · exact (element_of_one h).1.trans (element_of_one h').1.symm

theorem channel_of_one {c : Channel} {n : Nat} (h : aGeneration.channels.get? n = some c) : n = 2 ∧ c = aChannel := by
  have h' : (if 2 = n then some aChannel else none) = some c := h
  split at h'
  · cases h'; exact ⟨(‹2 = n›).symm, rfl⟩
  · cases h'

theorem witness_referred :
    let next := { aGeneration with number := 8 }
    let s := linedUp (.scheduled next 15) [(0, anOffer)] (clockAt 14)
    s.canonical ∧ s.referred := by
  have offer (n : Nat) (o : Offer) (h : lookupIn n [(0, anOffer)] = some o) : n = 0 ∧ o = anOffer := by
    simp only [lookupIn] at h
    split at h
    · cases h; exact ⟨(‹0 = n›).symm, rfl⟩
    · cases h
  refine ⟨⟨rfl, rfl, rfl, rfl, rfl, fun _ h => (by cases h; rfl), rfl, rfl⟩, fun n c h => ?_, fun g n c hg h => ?_,
    fun n o h => ?_, fun n m o p h h' _ => ?_, fun n m c d h h' hn => ?_, fun g m hg n k c d h h' hn => ?_,
    fun g hg => by cases hg; rfl⟩
  · obtain ⟨-, rfl⟩ := channel_of_one h; rfl
  · cases hg; obtain ⟨-, rfl⟩ := channel_of_one (n := n) h; rfl
  · obtain ⟨-, rfl⟩ := offer n o h
    exact ⟨rfl, ⟨aChannel, rfl, rfl⟩, fun g m hg => (by cases hg; exact ⟨aChannel, rfl, rfl⟩)⟩
  · exact (offer n o h).1.trans (offer m p h').1.symm
  · exact absurd ((channel_of_one h).1.trans (channel_of_one h').1.symm) hn
  · cases hg; exact absurd ((channel_of_one (n := n) h).1.trans (channel_of_one (n := k) h').1.symm) hn

theorem witness_KeysAndLinksKept :
    let s := waiting (.addSubscriber 1 5 0) State.reset
    let l := waiting .minuteEvent (linedUp (.scheduled { aGeneration with number := 8 } 15) [(0, anOffer)] (clockAt 14))
    ((s.canonical ∧ s.indexed ∧ s.linked) ∧ ∃ t, step s = .next t) ∧
    ((l.canonical ∧ l.referred) ∧ ∃ t, step l = .next t) := by
  refine ⟨⟨⟨witness_canonical, ⟨fun a n => ?_, fun a n => ?_⟩, ⟨fun n tap port => ?_, fun _ _ h => (by cases h)⟩⟩, _, rfl⟩,
    ⟨witness_referred, _, rfl⟩⟩
  · exact ⟨fun h => (by cases h), fun ⟨_, h, _⟩ => (by cases h)⟩
  · exact ⟨fun h => (by cases h), fun ⟨_, h, _⟩ => (by cases h)⟩
  · exact ⟨fun ⟨_, h, _⟩ => (by cases h), fun ⟨_, h, _⟩ => (by cases h)⟩

theorem witness_ChargesKept :
    let s := waiting (.startPeriod 1 28) (clockAt 0)
    (s.canonical ∧ s.numbered ∧ s.counted ∧ s.tagged ∧ s.weighed ∧ s.heldRight) ∧ ∃ t, step s = .next t := by
  refine ⟨⟨witness_canonical, ⟨fun _ _ h => (by cases h), fun _ _ h => (by cases h), fun _ _ h => (by cases h),
    fun _ _ h => (by cases h)⟩, ⟨fun _ _ h => (by cases h), fun _ _ _ h => (by cases h)⟩, fun _ _ h => (by cases h),
    fun _ _ h => (by cases h), ⟨fun _ _ h => (by cases h), fun _ _ h => (by cases h)⟩⟩, _, rfl⟩

/-- In a tree of one element, lit and not FAILED, with no walk, the flags agree. -/
theorem witness_flagsAgree : (withPlantOf [(1, aNode .up)] State.reset).flagsAgree := by
  intro _ i e h _ _
  obtain ⟨-, rfl⟩ := element_of_one h
  exact ⟨rfl, rfl, fun p _ h => (by cases h)⟩

theorem witness_PollsAgreeKept :
    let s := waiting .windowExpiry (polled .up)
    let p := waiting (.setPolling 1 1 0) (withPlantOf [(1, aNode .up)] State.reset)
    let w := waiting .propagationWalkEnd (walked .outage State.reset)
    let two := withPlantOf [(1, { aNode .failed with firstChild := some 3 }), (3, { aNode .up with parent := 1, member := 3 })]
      State.reset
    let r : State := { two with plant := { two.plant with walk := .rederive 1 [anOwing .outage] } }
    ((s.canonical ∧ s.numbered ∧ s.pollsAgree) ∧ ∃ t, step s = .next t) ∧
    ((p.canonical ∧ p.numbered ∧ p.pollsAgree ∧ p.treeShaped ∧ p.walkPlaced ∧ p.flagsAgree) ∧ ∃ t, step p = .next t) ∧
    (w.walkPlaced ∧ ∃ t, step w = .next t) ∧ r.walkPlaced := by
  have numbered (c : Instr) : (waiting c (withPlantOf [(1, aNode .up)] State.reset)).numbered := by
    refine ⟨fun _ _ h => (by cases h), fun _ _ h => (by cases h), fun _ _ h => (by cases h), fun i e h => ?_⟩
    obtain ⟨rfl, rfl⟩ := element_of_one h; decide
  refine ⟨⟨⟨⟨rfl, rfl, rfl, rfl, rfl, fun _ h => (by cases h), rfl, rfl⟩, numbered .windowExpiry,
      ⟨fun i e p h hp => ?_, by decide, fun _ h => (by cases h), fun f h _ => ?_⟩⟩, _, rfl⟩,
    ⟨⟨⟨rfl, rfl, rfl, rfl, rfl, fun _ h => (by cases h), rfl, rfl⟩, numbered _,
      ⟨fun i e p h hp => ?_, by decide, fun _ h => (by cases h), fun _ h => (by cases h)⟩, witness_treeShaped .up, trivial,
      witness_flagsAgree⟩, _, rfl⟩, ⟨rfl, _, rfl⟩, ⟨by decide, fun o h => ?_⟩⟩
  · obtain ⟨-, rfl⟩ := element_of_one h; cases hp; decide
  · cases h; exact ⟨by decide, .up, rfl, rfl⟩
  · obtain ⟨-, rfl⟩ := element_of_one h; cases hp; decide
  · cases List.mem_singleton.mp h; exact ⟨3, rfl, by decide, rfl⟩

theorem witness_OrdersAgreeKept :
    (waiting (.orderReply 4660 1 2 [(0, 0)]) (inFlight (anOrder .sent) State.reset)).ordersAgree ∧
    ∃ t, step (waiting (.orderReply 4660 1 2 [(0, 0)]) (inFlight (anOrder .sent) State.reset)) = .next t :=
  ⟨witness_ordersAgree, _, rfl⟩

end Sys2Proof.Tests
end

section
/-! SUPPORT. The proofs of family 02 (02_tiers_line_up_and_offers.md): what each request of the Tier and Line-up Unit does in
each of its cases, what the clock's readers take from a minute number, and the obligations settled from these. -/

namespace Sys2Proof.Proofs.TiersAndOffers

open Sys2Proof Sys2Proof.Machine Sys2Proof.Laws

-- a request the Management Port takes

theorem exec_of_requestOf? {i : Instr} {tag : Nat} {q : Request} (hi : requestOf? i = some (tag, q)) (s : State) :
    exec i s = .next (s.exchange tag q) := by
  cases i <;> cases hi <;> rfl

section Taken

variable {i : Instr} {tag : Nat} {q : Request} {s t : State}

theorem exec_of_takes (hi : requestOf? i = some (tag, q)) (hs : s.takesRequests) :
    exec i s = .next (State.respond tag (q s.emptyBuffer)) := by
  rw [exec_of_requestOf? hi, exchange_of_takes hs]

theorem exec_done {v : Values} (hi : requestOf? i = some (tag, q)) (hs : s.takesRequests)
    (hq : q s.emptyBuffer = done v t) : exec i s = .next (t.answering (okay tag v)) := by
  rw [exec_of_takes hi hs, hq, respond_done]; rfl

/-- The answer of a read: the response, and nothing else changed. -/
theorem exec_read {v : Values} (hi : requestOf? i = some (tag, q)) (hs : s.takesRequests)
    (hq : q s.emptyBuffer = done v s.emptyBuffer) : exec i s = .next (s.answering (okay tag v)) :=
  exec_done (t := s.emptyBuffer) hi hs hq

theorem exec_refuse {st : Status} (hi : requestOf? i = some (tag, q)) (hs : s.takesRequests)
    (hq : q s.emptyBuffer = refuse st s.emptyBuffer) : exec i s = .next (s.answering (refused tag st)) := by
  rw [exec_of_takes hi hs, hq, respond_refuse]; rfl

theorem exec_refuseFor {st : Status} {r : Reason} {v : Values} (hi : requestOf? i = some (tag, q))
    (hs : s.takesRequests) (hq : q s.emptyBuffer = refuseFor st r v s.emptyBuffer) :
    exec i s = .next (s.answering (refusedFor tag st r v)) := by
  rw [exec_of_takes hi hs, hq, respond_refuseFor]; rfl

end Taken

-- the search of a canonical table

section Search

variable {α : Type} {t : Table α} {f : Nat → α → Bool}

/-- The entry under the lowest number that passes a test is the one found. -/
theorem find?_eq_some_of_lowest (hw : t.wf = true) {n : Nat} {v : α} (hv : t.get? n = some v) (hf : f n v = true)
    (hlow : ∀ k w, k < n → t.get? k = some w → f k w = false) : t.find? f = some (n, v) := by
  cases h : t.find? f with
  | none => simp [Table.find?_none h hv] at hf
  | some p =>
    obtain ⟨m, w⟩ := p
    obtain ⟨hm, hfm, hle⟩ := Table.find?_some hw h
    have hmn : m = n := by
      have hge : ¬ m < n := fun hlt => by simp [hlow m w hlt hm] at hfm
      have := hle n v hv hf
      omega
    subst hmn
    rw [hv] at hm
    cases hm
    rfl

theorem find?_eq_none (hw : t.wf = true) (h : ∀ n v, t.get? n = some v → f n v = false) : t.find? f = none :=
  List.find?_eq_none.mpr fun p hp => by simp [h p.1 p.2 (Table.get?_of_mem hw hp)]

end Search

-- the requests of the Tier Table (R31, R32, R34, R35)

section Tiers

variable {tier rate : Nat} {s : State} {e : Tier}

/-- The entry DEFINE TIER makes: both rates as given, both per-tick rates by the open period, no holders (R31). -/
def newTier (s : State) (rate : Nat) : Tier where
  currentRate := rate
  nextRate := rate
  currentQ := s.newQ rate
  previousQ := s.newQ rate
  holders := 0

theorem newQ_open {days : Nat} (h : s.accrual.length = some days) :
    s.newQ rate = rate * Config.fineUnits / (Config.ticksPerDay * days) := by
  simp [State.newQ, h, perTick, ticksOf]

theorem newQ_closed (h : s.accrual.length = none) : s.newQ rate = 0 := by
  simp [State.newQ, h]

theorem defineTier_undefined (ht : tier ≤ 31) (hr : rate ≤ 65535) (h : s.lineUp.tiers.get? tier = none) :
    defineTier tier rate s = done (.tier (some (newTier s rate))) (s.setTier tier (newTier s rate)) := by
  have hrange : ¬ (31 < tier ∨ 65535 < rate) := by omega
  simp [defineTier, newTier, hrange, h]

theorem defineTier_defined (ht : tier ≤ 31) (hr : rate ≤ 65535) (h : s.lineUp.tiers.get? tier = some e) :
    defineTier tier rate s = refuse .exists s := by
  have hrange : ¬ (31 < tier ∨ 65535 < rate) := by omega
  simp [defineTier, hrange, h]

theorem setTierRate_defined (ht : tier ≤ 31) (hr : rate ≤ 65535) (h : s.lineUp.tiers.get? tier = some e) :
    setTierRate tier rate s = done (.rates e.currentRate rate) (s.setTier tier { e with nextRate := rate }) := by
  have hrange : ¬ (31 < tier ∨ 65535 < rate) := by omega
  simp [setTierRate, hrange, h]

theorem undefineTier_referenced (ht : tier ≤ 31) (h : s.lineUp.tiers.get? tier = some e) {r : Reason} {v : Values}
    (href : s.lineUp.reference tier e = some (r, v)) : undefineTier tier s = refuseFor .referenced r v s := by
  simp [undefineTier, Nat.not_lt.mpr ht, h, href]

theorem undefineTier_unreferenced (ht : tier ≤ 31) (h : s.lineUp.tiers.get? tier = some e)
    (href : s.lineUp.reference tier e = none) :
    undefineTier tier s = done .none (s.withLineUp { s.lineUp with tiers := s.lineUp.tiers.erase tier }) := by
  simp [undefineTier, Nat.not_lt.mpr ht, h, href]

theorem readTier_range (ht : 31 < tier) : readTier tier s = refuse .range s := by
  simp [readTier, ht]

theorem readTier_in_range (ht : tier ≤ 31) : readTier tier s = done (.tier (s.lineUp.tiers.get? tier)) s := by
  simp [readTier, Nat.not_lt.mpr ht]

end Tiers

-- the reference that keeps a tier defined (R34)

section References

variable {tier n : Nat} {g : Generation} {c : Channel} {l : LineUp} {e : Tier}

theorem naming_eq_some (hw : g.channels.wf = true) (hc : g.channels.get? n = some c) (ht : c.tier = tier)
    (hlow : ∀ k d, k < n → g.channels.get? k = some d → d.tier ≠ tier) : g.naming tier = some n := by
  have := find?_eq_some_of_lowest (f := fun _ c => c.tier == tier) hw hc (by simpa using ht)
    (fun k w hk hkw => by simpa using hlow k w hk hkw)
  simp [Generation.naming, this]

theorem naming_eq_none (hw : g.channels.wf = true) (h : ∀ n c, g.channels.get? n = some c → c.tier ≠ tier) :
    g.naming tier = none := by
  have := find?_eq_none (f := fun _ c => c.tier == tier) hw (fun n c hc => by simpa using h n c hc)
  simp [Generation.naming, this]

theorem next_naming_eq_none (hw : ∀ g, l.editor.next? = some g → g.channels.wf = true)
    (h : ∀ g n c, l.editor.next? = some g → g.channels.get? n = some c → c.tier ≠ tier) :
    l.editor.next?.bind (fun g => g.naming tier) = none :=
  Option.bind_eq_none_iff.mpr fun g hg => naming_eq_none (hw g hg) (fun n c hc => h g n c hg hc)

theorem reference_holders (hh : e.holders ≠ 0) : l.reference tier e = some (.holders, .holders e.holders) := by
  simp [LineUp.reference, hh]

theorem reference_current (hh : e.holders = 0) (hcur : l.current.naming tier = some n) :
    l.reference tier e = some (.channel, .channelOf .current n) := by
  simp [LineUp.reference, hh, hcur]

theorem reference_next (hh : e.holders = 0) (hcur : l.current.naming tier = none)
    (hnext : l.editor.next?.bind (fun g => g.naming tier) = some n) :
    l.reference tier e = some (.channel, .channelOf .next n) := by
  simp [LineUp.reference, hh, hcur, hnext]

/-- With no holder and no channel of either generation, the Offer Table decides. -/
theorem reference_offers (hh : e.holders = 0) (hcur : l.current.naming tier = none)
    (hnext : l.editor.next?.bind (fun g => g.naming tier) = none) :
    l.reference tier e = (l.offers.find? (fun _ o => o.tier == tier)).map (fun p => (.offer, .offerSlot p.1)) := by
  simp only [LineUp.reference, hh, hcur, hnext]
  cases l.offers.find? (fun _ o => o.tier == tier) <;> rfl

end References

-- the moves of the editor (R38, R41 to R44)

section Editor

variable {s : State} {g : Generation} {m : Nat}

theorem beginEdit_idle (h : s.lineUp.editor = .idle) :
    beginEdit s = done (.begun ((s.lineUp.current.number + 1) % 256) s.lineUp.current.channels.size)
      (s.setEditor (.editing { number := (s.lineUp.current.number + 1) % 256
                               channels := s.lineUp.current.channels })) := by
  simp [beginEdit, h]

theorem beginEdit_not_idle (h : s.lineUp.editor ≠ .idle) : beginEdit s = refuse .state s := by
  cases he : s.lineUp.editor with
  | idle => exact absurd he h
  | editing g => simp [beginEdit, he]
  | scheduled g m => simp [beginEdit, he]

theorem abandonEdit_editing (h : s.lineUp.editor = .editing g) : abandonEdit s = done .none (s.setEditor .idle) := by
  simp [abandonEdit, h]

theorem abandonEdit_not_editing (h : ∀ g, s.lineUp.editor ≠ .editing g) : abandonEdit s = refuse .state s := by
  cases he : s.lineUp.editor with
  | idle => simp [abandonEdit, he]
  | editing g => exact absurd he (h g)
  | scheduled g m => simp [abandonEdit, he]

theorem cancelPromote_scheduled (h : s.lineUp.editor = .scheduled g m) :
    cancelPromote s = done .none ((s.setEditor (.editing g)).withDown s.down.leaveNext) := by
  simp [cancelPromote, h]

theorem cancelPromote_not_scheduled (h : ∀ g m, s.lineUp.editor ≠ .scheduled g m) :
    cancelPromote s = refuse .state s := by
  cases he : s.lineUp.editor with
  | idle => simp [cancelPromote, he]
  | editing g => simp [cancelPromote, he]
  | scheduled g m => exact absurd he (h g m)

/-- PROMOTE with the clock set and the editor EDITING is decided by the validation alone (R42). -/
theorem promote_valid (hm : m ≤ Config.max32) (hset : s.clock.isSet = true) (h : s.lineUp.editor = .editing g)
    (hv : s.validate g m = none) : promote m s = done (.scheduled g.number m) (s.setEditor (.scheduled g m)) := by
  simp [promote, Nat.not_lt.mpr hm, hset, h, hv]

theorem promote_invalid (hm : m ≤ Config.max32) (hset : s.clock.isSet = true) (h : s.lineUp.editor = .editing g)
    {r : Reason} {v : Values} (hv : s.validate g m = some (r, v)) : promote m s = refuseFor .invalid r v s := by
  simp [promote, Nat.not_lt.mpr hm, hset, h, hv]

end Editor

-- the validation of NEXT (R42)

section Validation

variable {s : State} {g : Generation} {m : Nat}

/-- Channels that pairwise differ in carrier or program do not clash. -/
theorem clashIn_eq_none {seen l : List (Nat × Channel)}
    (h : (seen ++ l).Pairwise (fun a b => a.2.carrier ≠ b.2.carrier ∨ a.2.program ≠ b.2.program)) :
    clashIn seen l = none := by
  induction l generalizing seen with
  | nil => rfl
  | cons p r ih =>
    obtain ⟨n, c⟩ := p
    have hseen : seen.find? (fun p => p.2.carrier == c.carrier && p.2.program == c.program) = none := by
      refine List.find?_eq_none.mpr fun a ha => ?_
      have hap := (List.pairwise_append.mp h).2.2 a ha (n, c) List.mem_cons_self
      simp only [Bool.and_eq_true, beq_iff_eq]
      exact fun hsame => hap.elim (fun hc => hc hsame.1) (fun hp => hp hsame.2)
    simp only [clashIn, hseen]
    exact ih (by simpa using h)

theorem isImpulse_eq_true {n : Nat} : g.isImpulse n = true ↔ ∃ c, g.channels.get? n = some c ∧ c.kind = .impulse := by
  unfold Generation.isImpulse
  cases g.channels.get? n <;> simp

theorem undefinedTier_eq_none {l : LineUp}
    (h : ∀ n c, (n, c) ∈ g.channels.entries → (l.tiers.get? c.tier).isSome = true) : l.undefinedTier g = none := by
  have : g.channels.find? (fun _ c => (l.tiers.get? c.tier).isNone) = none :=
    List.find?_eq_none.mpr fun p hp => by simp [Option.isSome_iff_ne_none.mp (h p.1 p.2 hp)]
  simp [LineUp.undefinedTier, this]

theorem failingOffer_eq_none {l : LineUp}
    (h : ∀ k o, (k, o) ∈ l.offers.entries → ∃ c, g.channels.get? o.channel = some c ∧ c.kind = .impulse) :
    l.failingOffer g = none :=
  List.find?_eq_none.mpr fun p hp => by simp [isImpulse_eq_true.mpr (h p.1 p.2 hp)]

theorem validate_lead (hne : g.channels.entries ≠ [])
    (hlead : ¬ (s.clock.minute + 10 ≤ m ∧ m ≤ s.clock.minute + 43200)) :
    s.validate g m = some (.lead, .present s.clock.minute) := by
  simp only [State.validate, List.isEmpty_eq_false_iff.mpr hne, hlead]
  simp

theorem validate_eq_none (hne : g.channels.entries ≠ [])
    (hlead : s.clock.minute + 10 ≤ m ∧ m ≤ s.clock.minute + 43200) (htier : s.lineUp.undefinedTier g = none)
    (hclash : clashIn [] g.channels.entries = none) (hoffer : s.lineUp.failingOffer g = none) :
    s.validate g m = none := by
  simp [State.validate, hne, hlead, htier, hclash, hoffer]

end Validation

-- the edits of NEXT (R39, R40)

section Channels

variable {number carrier program kind tier : Nat} {k : ChannelKind} {s : State} {g : Generation}

@[simp] theorem ofCode?_code (k : ChannelKind) : ChannelKind.ofCode? k.code = some k := by
  cases k <;> rfl

theorem ofCode?_range (h : 2 < kind) : ChannelKind.ofCode? kind = none := by
  have h0 : kind ≠ 0 := by omega
  have h1 : kind ≠ 1 := by omega
  have h2 : kind ≠ 2 := by omega
  simp [ChannelKind.ofCode?, h0, h1, h2]

/-- The operands of PUT CHANNEL lie in their ranges (R39). -/
def ChannelInRange (number carrier program tier : Nat) : Prop :=
  within 2 999 number ∧ within 2 158 carrier ∧ program ≤ 15 ∧ tier ≤ 31

/-- PUT CHANNEL with operands in range while EDITING goes on to its two checks. -/
theorem putChannel_editing (hr : ChannelInRange number carrier program tier) (h : s.lineUp.editor = .editing g) :
    putChannel number carrier program k.code tier s =
      if (s.lineUp.tiers.get? tier).isNone then refuseFor .invalid .tier .none s
      else if (g.channels.get? number).isNone ∧ Config.channels ≤ g.channels.size then refuse .full s
      else
        done (.channelCount (g.channels.set number { carrier, program, kind := k, tier }).size)
          (s.setEditor (.editing
            { g with channels := g.channels.set number { carrier, program, kind := k, tier } })) := by
  obtain ⟨hn, hc, hp, ht⟩ := hr
  have hrange : ¬ (¬ within 2 999 number ∨ ¬ within 2 158 carrier ∨ 15 < program ∨ 31 < tier) := by omega
  simp only [putChannel, ofCode?_code, hrange, if_false, h]

theorem putChannel_placed (hr : ChannelInRange number carrier program tier) (h : s.lineUp.editor = .editing g)
    (ht : (s.lineUp.tiers.get? tier).isSome = true)
    (hroom : (g.channels.get? number).isSome = true ∨ g.channels.size < Config.channels) :
    putChannel number carrier program k.code tier s =
      done (.channelCount (g.channels.set number { carrier, program, kind := k, tier }).size)
        (s.setEditor (.editing
          { g with channels := g.channels.set number { carrier, program, kind := k, tier } })) := by
  have hfull : ¬ ((g.channels.get? number).isNone = true ∧ Config.channels ≤ g.channels.size) := by
    rintro ⟨hnone, hsize⟩
    rcases hroom with hsome | hlt
    · simp [Option.isNone_iff_eq_none.mp hnone] at hsome
    · omega
  rw [putChannel_editing hr h, if_neg (by simpa [Option.isSome_iff_ne_none] using ht), if_neg hfull]

theorem putChannel_invalid_tier (hr : ChannelInRange number carrier program tier) (h : s.lineUp.editor = .editing g)
    (ht : s.lineUp.tiers.get? tier = none) :
    putChannel number carrier program k.code tier s = refuseFor .invalid .tier .none s := by
  rw [putChannel_editing hr h, if_pos (by simp [ht])]

theorem putChannel_range (hk : 2 < kind) : putChannel number carrier program kind tier s = refuse .range s := by
  simp [putChannel, ofCode?_range hk]

theorem dropChannel_listed (hn : within 2 999 number) (h : s.lineUp.editor = .editing g)
    (hc : (g.channels.get? number).isSome = true) :
    dropChannel number s = done (.channelCount (g.channels.erase number).size)
      (s.setEditor (.editing { g with channels := g.channels.erase number })) := by
  simp [dropChannel, hn, h, Option.isSome_iff_ne_none.mp hc]

theorem dropChannel_vacant (hn : within 2 999 number) (h : s.lineUp.editor = .editing g)
    (hc : g.channels.get? number = none) : dropChannel number s = refuse .vacant s := by
  simp [dropChannel, hn, h, hc]

end Channels

-- the requests of the Offer Table (R49, R51, R53)

section Offers

variable {slot : Nat} {o : Offer} {s : State}

/-- The operands of PUT OFFER lie in their ranges (R49). -/
def OfferInRange (slot : Nat) (o : Offer) : Prop :=
  slot ≤ 15 ∧ within 1 65535 o.event ∧ within 2 999 o.channel ∧ o.price ≤ 9999 ∧ o.tier ≤ 31 ∧
    o.opens ≤ Config.max32 ∧ o.closes ≤ Config.max32 ∧ o.airEnd ≤ Config.max32

/-- PUT OFFER with operands in range goes on to its checks, in the order of R49. -/
theorem putOffer_in_range (hr : OfferInRange slot o) :
    putOffer slot o s =
      if s.clock.isSet = false then refuse .unset s
      else if ¬ (o.opens < o.closes ∧ o.closes ≤ o.airEnd ∧ s.clock.minute < o.airEnd) then
        refuseFor .invalid .times .none s
      else if (s.lineUp.offers.get? slot).any (fun h => h.event != o.event) then refuse .state s
      else if (s.lineUp.offers.find? (fun k h => k != slot && h.event == o.event)).isSome then refuse .exists s
      else if s.lineUp.mayOffer o.channel = false then refuseFor .invalid .offer .none s
      else if (s.lineUp.tiers.get? o.tier).isNone then refuseFor .invalid .tier .none s
      else done (.offerSlot slot) (s.withLineUp { s.lineUp with offers := s.lineUp.offers.set slot o }) := by
  obtain ⟨hs, he, hc, hp, ht, ho, hcl, ha⟩ := hr
  exact if_neg (by omega)

theorem putOffer_unset (hr : OfferInRange slot o) (h : s.clock.isSet = false) :
    putOffer slot o s = refuse .unset s := by
  rw [putOffer_in_range hr, if_pos h]

theorem putOffer_times (hr : OfferInRange slot o) (h : s.clock.isSet = true) (ha : o.airEnd ≤ s.clock.minute) :
    putOffer slot o s = refuseFor .invalid .times .none s := by
  rw [putOffer_in_range hr, if_neg (by simp [h]), if_pos (by omega)]

theorem mayOffer_eq_true {l : LineUp} {n : Nat}
    (hcur : ∃ c, l.current.channels.get? n = some c ∧ c.kind = .impulse)
    (hnext : ∀ g m, l.editor = .scheduled g m → ∃ c, g.channels.get? n = some c ∧ c.kind = .impulse) :
    l.mayOffer n = true := by
  cases he : l.editor with
  | idle => simp [LineUp.mayOffer, isImpulse_eq_true.mpr hcur, he]
  | editing g => simp [LineUp.mayOffer, isImpulse_eq_true.mpr hcur, he]
  | scheduled g m => simp [LineUp.mayOffer, isImpulse_eq_true.mpr hcur, isImpulse_eq_true.mpr (hnext g m he), he]

theorem putOffer_placed (hr : OfferInRange slot o) (h : s.clock.isSet = true)
    (htimes : o.opens < o.closes ∧ o.closes ≤ o.airEnd ∧ s.clock.minute < o.airEnd)
    (hsame : ∀ h, s.lineUp.offers.get? slot = some h → h.event = o.event)
    (hother : ∀ k h, (k, h) ∈ s.lineUp.offers.entries → k ≠ slot → h.event ≠ o.event)
    (hmay : s.lineUp.mayOffer o.channel = true) (htier : (s.lineUp.tiers.get? o.tier).isSome = true) :
    putOffer slot o s =
      done (.offerSlot slot) (s.withLineUp { s.lineUp with offers := s.lineUp.offers.set slot o }) := by
  have hslot : (s.lineUp.offers.get? slot).any (fun h => h.event != o.event) = false := by
    cases hg : s.lineUp.offers.get? slot with
    | none => rfl
    | some x => simp [hsame x hg]
  have hexists : s.lineUp.offers.find? (fun k h => k != slot && h.event == o.event) = none :=
    List.find?_eq_none.mpr fun p hp => by simpa using hother p.1 p.2 hp
  rw [putOffer_in_range hr, if_neg (by simp [h]), if_neg (fun hnot => hnot htimes), hslot, hexists, hmay]
  simp [Option.isSome_iff_ne_none.mp htier]

theorem withdrawOffer_held (hs : slot ≤ 15) (h : s.lineUp.offers.get? slot = some o) :
    withdrawOffer slot s =
      done (.event o.event) (s.withLineUp { s.lineUp with offers := s.lineUp.offers.erase slot }) := by
  simp [withdrawOffer, Nat.not_lt.mpr hs, h]

theorem withdrawOffer_vacant (hs : slot ≤ 15) (h : s.lineUp.offers.get? slot = none) :
    withdrawOffer slot s = refuse .vacant s := by
  simp [withdrawOffer, Nat.not_lt.mpr hs, h]

theorem readOffer_range (hs : 15 < slot) : readOffer slot s = refuse .range s := by
  simp [readOffer, hs]

theorem readOffer_vacant (hs : slot ≤ 15) (h : s.lineUp.offers.get? slot = none) :
    readOffer slot s = refuse .vacant s := by
  simp [readOffer, Nat.not_lt.mpr hs, h]

theorem readOffer_held (hs : slot ≤ 15) (h : s.lineUp.offers.get? slot = some o) :
    readOffer slot s = done (.offer o) s := by
  simp [readOffer, Nat.not_lt.mpr hs, h]

end Offers


-- the minute number and its readers (R45, R52, R145, R182, R183)

section Minute

variable {s : State}

/-- The tick minute at or below the clock's minute number produces an accrual tick (R183). -/
def TickDue (s : State) : Prop :=
  s.clock.isSet = true ∧ ∀ l, s.clock.lastTick = some l → l < tickAt s.clock.minute

/-- The clock has produced the tick of its minute number, which no engine has taken yet (R183). -/
def ticked (s : State) : State := s.withClock { s.clock with lastTick := some (tickAt s.clock.minute) }

theorem checkTick_due (h : TickDue s) : s.checkTick = (ticked s).takeTick (tickAt s.clock.minute) := by
  obtain ⟨hset, hlast⟩ := h
  cases hl : s.clock.lastTick with
  | none => simp [State.checkTick, ticked, hset, hl]
  | some l => simp [State.checkTick, ticked, hset, hl, hlast l hl]

theorem checkTick_not_due (h : ¬ TickDue s) : s.checkTick = s := by
  cases hset : s.clock.isSet with
  | false => simp [State.checkTick, hset]
  | true =>
    have hex : ∃ l, s.clock.lastTick = some l ∧ tickAt s.clock.minute ≤ l := by simpa [TickDue, hset] using h
    obtain ⟨l, hl, hle⟩ := hex
    simp [State.checkTick, hset, hl, Nat.not_lt.mpr hle]

theorem takeTick_closed (tick : Nat) (h : s.accrual.length = none) : s.takeTick tick = s := by
  simp [State.takeTick, h]

theorem takeTick_free (tick : Nat) (h : s.accrual.length.isSome = true) (hf : s.walkFree = true) :
    s.takeTick tick = s.beginAccrual tick := by
  simp [State.takeTick, Option.isSome_iff_ne_none.mp h, hf]

theorem takeTick_pends (tick : Nat) (h : s.accrual.length.isSome = true) (hf : s.walkFree = false)
    (hp : s.accrual.pendingTick = none) :
    s.takeTick tick = s.withAccrual { s.accrual with pendingTick := some tick } := by
  simp [State.takeTick, Option.isSome_iff_ne_none.mp h, hf, hp]

theorem takeTick_lost (tick : Nat) (h : s.accrual.length.isSome = true) (hp : s.accrual.pendingTick.isSome = true) :
    s.takeTick tick = s.post (.lostTick tick none) .none := by
  have hf : s.walkFree = false := by simp [State.walkFree, Option.isNone_eq_false_iff.mpr hp]
  simp [State.takeTick, Option.isSome_iff_ne_none.mp h, hf, Option.isSome_iff_ne_none.mp hp]

theorem walkFree_eq_true (hr : s.restarting = false) (hw : s.accrual.walk = .none)
    (hpp : s.accrual.pendingPeriod = none) (hpt : s.accrual.pendingTick = none) : s.walkFree = true := by
  simp [State.walkFree, hr, hw, hpp, hpt]

theorem walkFree_of_restarting (hr : s.restarting = true) : s.walkFree = false := by
  simp [State.walkFree, hr]

theorem walkFree_of_walk (h : s.accrual.walk ≠ .none ∨ s.accrual.pendingPeriod.isSome = true) :
    s.walkFree = false := by
  rcases h with h | h
  · simp [State.walkFree, h]
  · simp [State.walkFree, Option.isSome_iff_ne_none.mp h]

theorem takeTick_clock (tick : Nat) : (s.takeTick tick).clock = s.clock := by
  obtain ⟨a, q, h⟩ := takeTick_frame s tick
  rw [h]

/-- What the tick check leaves of the last tick minute, the Accrual Engine and the notices (R145, R159, R183). -/
theorem checkTick_spec :
    (TickDue s → s.checkTick.clock.lastTick = some (tickAt s.clock.minute) ∧
      (s.accrual.length = none → s.checkTick.accrual = s.accrual ∧ s.checkTick.notices = s.notices) ∧
      (s.accrual.length.isSome = true → s.walkFree = true →
        s.checkTick.accrual = { s.accrual with walk := .accrual (tickAt s.clock.minute), position := 0 } ∧
        s.checkTick.notices = s.notices) ∧
      (s.accrual.length.isSome = true → s.walkFree = false → s.accrual.pendingTick = none →
        s.checkTick.accrual = { s.accrual with pendingTick := some (tickAt s.clock.minute) } ∧
        s.checkTick.notices = s.notices) ∧
      (s.accrual.length.isSome = true → s.accrual.pendingTick.isSome = true →
        s.checkTick.accrual = s.accrual ∧
        s.checkTick.notices = s.notices.post s.clock.minute (.lostTick (tickAt s.clock.minute) none) .none)) ∧
    (¬ TickDue s → s.checkTick.accrual = s.accrual ∧ s.checkTick.clock.lastTick = s.clock.lastTick ∧
      s.checkTick.notices = s.notices) := by
  refine ⟨fun h => ?_, fun h => by rw [checkTick_not_due h]; exact ⟨rfl, rfl, rfl⟩⟩
  rw [checkTick_due h]
  refine ⟨by rw [takeTick_clock]; rfl, fun hl => ?_, fun hl hf => ?_, fun hl hf hp => ?_, fun hl hp => ?_⟩
  · rw [takeTick_closed (s := ticked s) _ hl]; exact ⟨rfl, rfl⟩
  · rw [takeTick_free (s := ticked s) _ hl hf]; exact ⟨rfl, rfl⟩
  · rw [takeTick_pends (s := ticked s) _ hl hf hp]; exact ⟨rfl, rfl⟩
  · rw [takeTick_lost (s := ticked s) _ hl hp]; exact ⟨rfl, rfl⟩

theorem checkTick_eq : s.checkTick =
    { s with clock := s.checkTick.clock, accrual := s.checkTick.accrual, notices := s.checkTick.notices } := by
  obtain ⟨c, a, q, h⟩ := checkTick_frame s
  rw [h]

@[simp] theorem checkTick_lineUp : s.checkTick.lineUp = s.lineUp := by rw [checkTick_eq]

@[simp] theorem checkTick_down : s.checkTick.down = s.down := by rw [checkTick_eq]

theorem checkTick_clock : s.checkTick.clock = { s.clock with lastTick := s.checkTick.clock.lastTick } := by
  by_cases h : TickDue s
  · rw [checkTick_due h, takeTick_clock]; rfl
  · rw [checkTick_not_due h]

theorem switchover_due {g : Generation} {m : Nat} (h : s.lineUp.editor = .scheduled g m) (hm : m ≤ s.clock.minute) :
    s.switchover = ((s.withLineUp { s.lineUp with current := g, editor := .idle }).withDown
      { s.down with phase := .time, lastChannel := none }).post (.switchoverDone g.number) .none := by
  simp [State.switchover, h, hm]

theorem switchover_waits (h : ∀ g m, s.lineUp.editor = .scheduled g m → s.clock.minute < m) : s.switchover = s := by
  cases he : s.lineUp.editor with
  | idle => simp [State.switchover, he]
  | editing g => simp [State.switchover, he]
  | scheduled g m => simp [State.switchover, he, Nat.not_le.mpr (h g m he)]

theorem switchover_offers : s.switchover.lineUp.offers = s.lineUp.offers := by
  unfold State.switchover
  split
  · split <;> rfl
  · rfl

theorem switchover_notices : s.switchover.notices =
    match s.lineUp.editor with
    | .scheduled g m =>
      if m ≤ s.clock.minute then s.notices.post s.clock.minute (.switchoverDone g.number) .none else s.notices
    | _ => s.notices := by
  cases he : s.lineUp.editor with
  | idle => simp [State.switchover, he]
  | editing g => simp [State.switchover, he]
  | scheduled g m =>
    by_cases hm : m ≤ s.clock.minute
    · rw [switchover_due he hm]; simp [hm, post_frame]
    · simp [State.switchover, he, hm]

/-- The state the tick check reads: the switchover and the air ends have been taken (R182). -/
theorem offerMinute_running (hr : s.restarting = false) : s.offerMinute = s.switchover.airEnds.checkTick := by
  simp [State.offerMinute, hr]

theorem offerMinute_restarting (hr : s.restarting = true) : s.offerMinute = s.checkTick := by
  simp [State.offerMinute, hr]

/-- The switchover and the air ends leave the clock, the Accrual Engine and the restart to the tick check. -/
theorem switchover_airEnds_keep : s.switchover.airEnds.clock = s.clock ∧ s.switchover.airEnds.accrual = s.accrual ∧
    s.switchover.airEnds.restarting = s.restarting ∧ s.switchover.airEnds.notices = s.switchover.notices := by
  obtain ⟨l, d, q, h⟩ := switchover_frame s
  rw [h]
  exact ⟨rfl, rfl, rfl, rfl⟩

theorem get?_airEnds (hw : s.lineUp.offers.wf = true) (k : Nat) (o : Offer) :
    s.airEnds.lineUp.offers.get? k = some o ↔ s.lineUp.offers.get? k = some o ∧ s.clock.minute < o.airEnd := by
  simpa [State.airEnds] using
    Table.get?_keep hw (fun _ o => decide (s.clock.minute < o.airEnd)) k o

/-- A minute number offered outside a restart: what its readers take (R45, R52, R145, R182, R183). -/
theorem offerMinute_minuteTaken (hr : s.restarting = false) (hw : s.lineUp.offers.wf = true) :
    s.minuteTaken s.offerMinute s.clock.minute := by
  obtain ⟨hclock, haccrual, hrestart, hnotices⟩ := switchover_airEnds_keep (s := s)
  have hdue : TickDue s.switchover.airEnds ↔ TickDue s := by simp only [TickDue, hclock]
  obtain ⟨hticks, hnone⟩ := checkTick_spec (s := s.switchover.airEnds)
  have hlineUp : s.offerMinute.lineUp = s.switchover.airEnds.lineUp := by
    rw [offerMinute_running hr, checkTick_lineUp]
  have hdown : s.offerMinute.down = s.switchover.down := by
    rw [offerMinute_running hr, checkTick_down]; rfl
  rw [hdue, hclock, haccrual, hnotices, switchover_notices, ← offerMinute_running hr] at hticks hnone
  refine ⟨fun g m he hm => ?_, fun hwait => ?_, fun k o => ?_, fun h => ?_, fun h => hnone h⟩
  · rw [hlineUp, hdown, State.airEnds, switchover_due he hm]
    exact ⟨rfl, rfl, rfl, rfl⟩
  · rw [hlineUp, hdown, switchover_waits hwait]
    exact ⟨rfl, rfl⟩
  · have hsc : s.switchover.clock = s.clock := hclock
    rw [hlineUp, get?_airEnds (by rw [switchover_offers]; exact hw), switchover_offers, hsc]
  · obtain ⟨htick, hclosed, hbegins, hpends, hlost⟩ := hticks h
    refine ⟨htick, hclosed, fun hl hwalk hpp hpt => ?_, fun hl hwalk hpt => ?_, hlost⟩
    · exact hbegins hl (walkFree_eq_true (hrestart.trans hr) (by rw [haccrual]; exact hwalk)
        (by rw [haccrual]; exact hpp) (by rw [haccrual]; exact hpt))
    · exact hpends hl (walkFree_of_walk (by rw [haccrual]; exact hwalk)) hpt

theorem exec_minuteEvent (h : s.clock.minute < Config.max32) :
    exec .minuteEvent s =
      .next (s.withClock { s.clock with minute := s.clock.minute + 1, seconds := 0 }).offerMinute := by
  have : exec .minuteEvent s = .next s.minutePasses := rfl
  rw [this, State.minutePasses, if_pos h]

theorem offerMinute_eq : s.offerMinute =
    { s with clock := s.offerMinute.clock, lineUp := s.offerMinute.lineUp, down := s.offerMinute.down
             notices := s.offerMinute.notices, accrual := s.offerMinute.accrual } := by
  obtain ⟨c, l, d, a, q, h⟩ := offerMinute_frame s
  rw [h]

theorem offerMinute_clock : s.offerMinute.clock = { s.clock with lastTick := s.offerMinute.clock.lastTick } := by
  cases hr : s.restarting with
  | true => rw [offerMinute_restarting hr]; exact checkTick_clock
  | false =>
    obtain ⟨hclock, -⟩ := switchover_airEnds_keep (s := s)
    rw [offerMinute_running hr, ← hclock]
    exact checkTick_clock

end Minute

-- the reads of the other blocks (R47, R57, R62, R75, R107, R126, R157, R187)

section Reads

variable {s : State} {code number n : Nat} {name : GenerationName} {g : Generation} {c : Channel}

theorem readChannel_found (hname : GenerationName.ofCode? code = some name) (hn : number ≤ 999)
    (hg : s.lineUp.generation? name = some g)
    (hf : g.channels.find? (fun k _ => decide (number ≤ k)) = some (n, c)) :
    readChannel code number s = done (.channel n c g.number g.channels.size (s.lineUp.shownMinute name)) s := by
  simp [readChannel, hname, Nat.not_lt.mpr hn, hg, hf]

theorem readChannel_vacant (hname : GenerationName.ofCode? code = some name) (hn : number ≤ 999)
    (hg : s.lineUp.generation? name = some g)
    (hf : g.channels.find? (fun k _ => decide (number ≤ k)) = none) :
    readChannel code number s = refuse .vacant s := by
  simp [readChannel, hname, Nat.not_lt.mpr hn, hg, hf]

theorem readChannel_no_generation (hname : GenerationName.ofCode? code = some name) (hn : number ≤ 999)
    (hg : s.lineUp.generation? name = none) : readChannel code number s = refuse .state s := by
  simp [readChannel, hname, Nat.not_lt.mpr hn, hg]

/-- A generation byte that names none, or a channel number above 999 (R47, R191). -/
theorem readChannel_range (h : 1 < code ∨ 999 < number) : readChannel code number s = refuse .range s := by
  cases hname : GenerationName.ofCode? code with
  | none => simp [readChannel, hname]
  | some name =>
    have hcode : ¬ 1 < code := fun hlt => by
      have h0 : code ≠ 0 := by omega
      have h1 : code ≠ 1 := by omega
      simp [GenerationName.ofCode?, h0, h1] at hname
    simp [readChannel, hname, h.resolve_left hcode]

theorem findElement_found {group member i : Nat} {e : Element} (hg : group ≤ 62) (hm : member ≤ 254)
    (hf : s.plant.elements.find? (fun _ x => x.group == group && x.member == member) = some (i, e)) :
    findElement group member s = done (.elementAt i e.role.kind) s := by
  have hrange : ¬ (62 < group ∨ 254 < member) := by omega
  simp [findElement, hrange, PlantTree.holder, hf]

theorem readElement_root : readElement 0 s = done (.root s.plant.rootFirst) s := rfl

theorem readElement_held {i : Nat} {e : Element} (hlow : 1 ≤ i) (hhigh : i ≤ 1023) (he : s.element? i = some e) :
    readElement i s = done (.elementCopy e) s := by
  have hzero : i ≠ 0 := by omega
  simp [readElement, Nat.not_lt.mpr hhigh, hzero, he]

theorem readOrder_held {position : Nat} {o : Order} {e : Element} (hp : position ≤ 63)
    (ho : s.orders.queue[position]? = some o) (he : s.element? o.tap = some e) :
    readOrder position s = done (.order { order := o, group := e.group, member := e.member
                                          count := s.orders.queue.length, sent := s.sentView o }) s := by
  simp [readOrder, Nat.not_lt.mpr hp, ho, State.addressOf, he]

theorem readOrder_vacant {position : Nat} (hp : position ≤ 63) (h : s.orders.queue.length ≤ position) :
    readOrder position s = refuse .vacant s := by
  simp [readOrder, Nat.not_lt.mpr hp, List.getElem?_eq_none h]

theorem running_eq_decide (w : PlantWalk) : w.running = decide (w ≠ .idle) := by
  cases w <;> simp [PlantWalk.running]

end Reads

-- the obligations

/-- Settles O9. -/
theorem readTier : Obligations.ReadTier := by
  intro tag tier s hs
  refine ⟨fun h => exec_refuse rfl hs (readTier_range h),
    fun h => ⟨exec_read rfl hs (readTier_in_range h), fun hnone => ?_⟩⟩
  rw [hnone]
  rfl

/-- Settles O10. -/
theorem readOffer : Obligations.ReadOffer := by
  intro tag slot s hs
  exact ⟨fun h => exec_refuse rfl hs (readOffer_range h),
    fun h hnone => exec_refuse rfl hs (readOffer_vacant h hnone),
    fun o h ho => exec_read rfl hs (readOffer_held h ho)⟩

/-- Settles O26: each request by its equation, and R34's order of references by `reference_holders` to `reference_offers`. -/
theorem tierTable : Obligations.TierTable := by
  intro tag tier s hs ht
  refine ⟨fun rate hr hnone => ?_, fun rate e hr he => ⟨?_, ?_⟩, fun e he hh hcur hnext hoff hc => ?_, fun e he hh => ?_,
    fun e n c he hh hc hn hct hlow => ?_, fun e he hh hc hcur => ⟨fun g n c hg hn hct hlow => ?_,
      fun hnext k o ho hot hlow => ?_⟩⟩
  · exact ⟨_, _, exec_done rfl hs (defineTier_undefined ht hr hnone), rfl, rfl, rfl, rfl, rfl,
      fun days hd => newQ_open (s := s.emptyBuffer) hd, fun hd => newQ_closed (s := s.emptyBuffer) hd,
      Table.get?_set_same _ _ _, fun n hn => Table.get?_set_other _ _ hn, rfl⟩
  · exact exec_refuse rfl hs (defineTier_defined ht hr he)
  · exact ⟨_, exec_done rfl hs (setTierRate_defined ht hr he), rfl, Table.get?_set_same _ _ _,
      fun n hn => Table.get?_set_other _ _ hn, rfl⟩
  · obtain ⟨-, -, -, -, hwcur, hwnext, hwoff, -⟩ := hc
    have hfind : s.lineUp.offers.find? (fun _ o => o.tier == tier) = none :=
      find?_eq_none hwoff fun n o ho => by simpa using hoff n o ho
    have href := reference_offers hh (naming_eq_none hwcur hcur) (next_naming_eq_none hwnext hnext)
    rw [hfind] at href
    exact ⟨_, exec_done rfl hs (undefineTier_unreferenced ht he href), rfl, Table.get?_erase_same _ _,
      fun n hn => Table.get?_erase_other _ hn, rfl⟩
  · exact exec_refuseFor rfl hs (undefineTier_referenced (s := s.emptyBuffer) ht he (reference_holders hh))
  · obtain ⟨-, -, -, -, hwcur, -⟩ := hc
    exact exec_refuseFor rfl hs
      (undefineTier_referenced (s := s.emptyBuffer) ht he (reference_current hh (naming_eq_some hwcur hn hct hlow)))
  · obtain ⟨-, -, -, -, hwcur, hwnext, -⟩ := hc
    have hnaming : s.lineUp.editor.next?.bind (fun g => g.naming tier) = some n := by
      rw [hg]; exact naming_eq_some (hwnext g hg) hn hct hlow
    exact exec_refuseFor rfl hs
      (undefineTier_referenced (s := s.emptyBuffer) ht he (reference_next hh (naming_eq_none hwcur hcur) hnaming))
  · obtain ⟨-, -, -, -, hwcur, hwnext, hwoff, -⟩ := hc
    have hfind : s.lineUp.offers.find? (fun _ o => o.tier == tier) = some (k, o) :=
      find?_eq_some_of_lowest hwoff ho (by simpa using hot) fun j x hj hx => by simpa using hlow j x hj hx
    have href := reference_offers hh (naming_eq_none hwcur hcur) (next_naming_eq_none hwnext hnext)
    rw [hfind] at href
    exact exec_refuseFor rfl hs (undefineTier_referenced (s := s.emptyBuffer) ht he href)

/-- Settles O27: each move by its equation; PROMOTE by the validation passing all its checks, or failing LEAD. -/
theorem editorMoves : Obligations.EditorMoves := by
  intro tag s hs
  refine ⟨fun hidle => ⟨?_, ?_, ?_⟩, fun g he => ⟨?_, ?_, ?_, fun m hm hset hne hlow hhigh htier hclash hoffer => ?_,
    fun m hm hset hne hlead => ?_⟩, fun g m he => ⟨?_, ?_, ?_⟩⟩
  · exact exec_done rfl hs (beginEdit_idle hidle)
  · exact exec_refuse rfl hs (abandonEdit_not_editing fun g h => by cases hidle.symm.trans h)
  · exact exec_refuse rfl hs (cancelPromote_not_scheduled fun g m h => by cases hidle.symm.trans h)
  · exact exec_done rfl hs (abandonEdit_editing he)
  · exact exec_refuse rfl hs (beginEdit_not_idle fun h => by cases he.symm.trans h)
  · exact exec_refuse rfl hs (cancelPromote_not_scheduled fun g m h => by cases he.symm.trans h)
  · have hvalid : s.validate g m = none :=
      validate_eq_none hne ⟨hlow, hhigh⟩ (undefinedTier_eq_none htier) (clashIn_eq_none hclash)
        (failingOffer_eq_none hoffer)
    exact exec_done rfl hs (promote_valid hm hset he hvalid)
  · have hlate : ¬ (s.clock.minute + 10 ≤ m ∧ m ≤ s.clock.minute + 43200) := by omega
    exact exec_refuseFor rfl hs (promote_invalid (s := s.emptyBuffer) hm hset he (validate_lead hne hlate))
  · exact exec_refuse rfl hs (beginEdit_not_idle fun h => by cases he.symm.trans h)
  · exact exec_refuse rfl hs (abandonEdit_not_editing fun g h => by cases he.symm.trans h)
  · exact ⟨_, exec_done rfl hs (cancelPromote_scheduled he), rfl, rfl, fun h => if_pos h, fun h => if_neg h, rfl⟩

/-- Settles O28. -/
theorem channelEdits : Obligations.ChannelEdits := by
  intro tag number s g hs hlow hhigh he
  refine ⟨fun carrier program tier kind e hc hc' hp ht htier hroom => ?_, fun hsome => ?_, fun hnone => ?_,
    fun carrier program tier kind hc hc' hp ht htier => ?_, fun carrier program tier kind hk => ?_⟩
  · have hr : ChannelInRange number carrier program tier := ⟨⟨hlow, hhigh⟩, ⟨hc, hc'⟩, hp, ht⟩
    exact ⟨_, _, exec_done rfl hs (putChannel_placed hr he (Option.isSome_of_eq_some htier) hroom), rfl, rfl, rfl,
      Table.get?_set_same _ _ _, fun n hn => Table.get?_set_other _ _ hn, rfl⟩
  · exact ⟨_, _, exec_done rfl hs (dropChannel_listed ⟨hlow, hhigh⟩ he hsome), rfl, rfl, rfl,
      Table.get?_erase_same _ _, fun n hn => Table.get?_erase_other _ hn, rfl⟩
  · exact exec_refuse rfl hs (dropChannel_vacant ⟨hlow, hhigh⟩ he hnone)
  · exact exec_refuseFor rfl hs
      (putChannel_invalid_tier (g := g) ⟨⟨hlow, hhigh⟩, ⟨hc, hc'⟩, hp, ht⟩ he htier)
  · exact exec_refuse rfl hs (putChannel_range hk)

/-- Settles O29. -/
theorem offerTable : Obligations.OfferTable := by
  intro tag slot o s hs hslot
  refine ⟨fun he he' hc hc' hp ht hopen hclose hend => ?_, fun ho => ?_, fun hnone => ?_⟩
  · have hmax : o.airEnd ≤ Config.max32 := hend
    have hr : OfferInRange slot o := ⟨hslot, ⟨he, he'⟩, ⟨hc, hc'⟩, hp, ht, by omega, by omega, hmax⟩
    refine ⟨fun hset => exec_refuse rfl hs (putOffer_unset hr hset),
      fun hset hnow hsame hother hcur hnext htier => ?_,
      fun hset hnow => exec_refuseFor rfl hs (putOffer_times hr hset hnow)⟩
    exact ⟨_, exec_done rfl hs (putOffer_placed hr hset ⟨hopen, hclose, hnow⟩ hsame hother
        (mayOffer_eq_true hcur hnext) htier), rfl, Table.get?_set_same _ _ _,
      fun n hn => Table.get?_set_other _ _ hn, rfl⟩
  · exact ⟨_, exec_done rfl hs (withdrawOffer_held hslot ho), rfl, Table.get?_erase_same _ _,
      fun n hn => Table.get?_erase_other _ hn, rfl⟩
  · exact exec_refuse rfl hs (withdrawOffer_vacant hslot hnone)

/-- Settles O16: the readers take the offered minute number as `offerMinute_minuteTaken` says, and in a restart the tick
check alone does. -/
theorem minuteReaders : Obligations.MinuteReaders := by
  intro s hlt now tick ticks
  let u := s.withClock { s.clock with minute := s.clock.minute + 1, seconds := 0 }
  have hexec : exec .minuteEvent s = .next u.offerMinute := exec_minuteEvent hlt
  refine ⟨fun hr hw => ⟨_, hexec, offerMinute_eq (s := u), offerMinute_clock (s := u),
    offerMinute_minuteTaken (s := u) hr hw⟩, fun hr => ?_⟩
  rw [offerMinute_restarting (s := u) hr] at hexec
  obtain ⟨hticks, hnone⟩ := checkTick_spec (s := u)
  refine ⟨_, hexec, checkTick_eq (s := u), checkTick_clock (s := u), fun h => ?_, hnone⟩
  obtain ⟨htick, hclosed, -, hpends, hlost⟩ := hticks h
  exact ⟨htick, hclosed, fun hl hp => hpends hl (walkFree_of_restarting hr) hp, hlost⟩

/-- Settles O12: each read by its equation, and the two views that show a walk or the editor by its cases. -/
theorem blockReads : Obligations.BlockReads := by
  refine ⟨fun tag s hs => ⟨?_, ?_, ?_, ?_, ?_, ?_, ?_, ?_, ?_, ?_, ?_, ?_, ?_, ?_, ?_, ?_⟩, fun tag s hs => ?_⟩
  · exact fun number n c hn hf => exec_read rfl hs (readChannel_found (s := s.emptyBuffer) (name := .current) rfl hn rfl hf)
  · intro number g m n c hn he hf
    have hg : s.lineUp.generation? .next = some g := by simp [LineUp.generation?, he, Editor.next?]
    have hm : s.lineUp.shownMinute .next = some m := by simp [LineUp.shownMinute, he, Editor.minute?]
    exact hm ▸ exec_read rfl hs (readChannel_found rfl hn hg hf)
  · intro number g n c hn he hf
    have hg : s.lineUp.generation? .next = some g := by simp [LineUp.generation?, he, Editor.next?]
    have hm : s.lineUp.shownMinute .next = none := by simp [LineUp.shownMinute, he, Editor.minute?]
    exact hm ▸ exec_read rfl hs (readChannel_found rfl hn hg hf)
  · intro number hn he
    have hg : s.lineUp.generation? .next = none := by simp [LineUp.generation?, he, Editor.next?]
    exact exec_refuse rfl hs (readChannel_no_generation rfl hn hg)
  · exact fun number hn hf => exec_refuse rfl hs (readChannel_vacant rfl hn rfl hf)
  · exact fun number g hn hg hf => exec_refuse rfl hs (readChannel_vacant (name := .next) rfl hn hg hf)
  · exact fun generation number h => exec_refuse rfl hs (readChannel_range h)
  · exact fun group member i e hg hm hf => exec_read rfl hs (findElement_found hg hm hf)
  · exact exec_read rfl hs readElement_root
  · exact fun index e hlow hhigh he => exec_read rfl hs (readElement_held hlow hhigh he)
  · exact exec_read rfl hs rfl
  · exact fun position o e hp ho he => exec_read rfl hs (readOrder_held hp ho he)
  · exact fun position hp h => exec_refuse rfl hs (readOrder_vacant hp h)
  · exact exec_read rfl hs rfl
  · rw [exec_read (q := readAccrual) (v := .accrual s.accrualView) rfl hs rfl]
    unfold State.accrualView
    cases s.accrual.walk <;> rfl
  · rw [exec_read (q := readStatus) (v := .status s.statusView) rfl hs rfl]
    unfold State.statusView
    rw [running_eq_decide]
    cases s.accrual.walk <;> cases s.lineUp.editor <;> rfl
  · exact exec_done (q := readCounters) rfl hs rfl

end Sys2Proof.Proofs.TiersAndOffers
end

section
/-! SUPPORT. The proofs of family 06 (06_downstream_frame_scheduling_and_the_carousel.md): what an offer does to the
Expedite List in each of its cases, what the arbiter grants where only the carousel and the map stream are left, what every
command leaves of the System Code, and the obligations settled from these. -/

namespace Sys2Proof.Proofs.Downstream

open Sys2Proof Sys2Proof.Machine Sys2Proof.Laws Sys2Proof.Proofs.TiersAndOffers

-- an offer that a held entry settles (R120)

section Settled

variable {e h : ExpediteEntry} {l before after : List ExpediteEntry}

/-- The held entry that settles an offer: the same REFRESH or DISABLE, or a DECLINE of the same slot and event (R120). -/
def SettledBy : ExpediteEntry → ExpediteEntry → Prop
  | .refresh a, h => h = .refresh a
  | .disable a, h => h = .disable a
  | .decline slot event _, h => ∃ held, h = .decline slot event held

theorem settleOffer_cons_of_settled (hs : SettledBy e h) : settleOffer e (h :: l) = some (e :: l) := by
  cases e with
  | refresh a => cases hs; simp [settleOffer]
  | disable a => cases hs; simp [settleOffer]
  | decline slot event reason => obtain ⟨held, rfl⟩ := hs; simp [settleOffer]

theorem settleOffer_cons_of_not_settled (hs : ¬ SettledBy e h) :
    settleOffer e (h :: l) = (settleOffer e l).map (fun r => h :: r) := by
  cases e with
  | refresh a =>
    cases h with
    | refresh b => exact if_neg fun hab : a = b => hs (hab ▸ rfl)
    | disable b => rfl
    | decline slot event held => rfl
  | disable a =>
    cases h with
    | refresh b => rfl
    | disable b => exact if_neg fun hab : a = b => hs (hab ▸ rfl)
    | decline slot event held => rfl
  | decline slot event reason =>
    cases h with
    | refresh b => rfl
    | disable b => rfl
    | decline slot' event' held => exact if_neg fun ⟨hslot, hevent⟩ => hs ⟨held, hslot ▸ hevent ▸ rfl⟩

theorem settleOffer_eq_none (hs : ∀ x, x ∈ l → ¬ SettledBy e x) : settleOffer e l = none := by
  induction l with
  | nil => rfl
  | cons h r ih =>
    rw [settleOffer_cons_of_not_settled (hs h List.mem_cons_self), ih fun x hx => hs x (List.mem_cons_of_mem h hx)]
    rfl

/-- The offer takes the place of the first entry that settles it. -/
theorem settleOffer_first (hb : ∀ x, x ∈ before → ¬ SettledBy e x) (hs : SettledBy e h) :
    settleOffer e (before ++ h :: after) = some (before ++ e :: after) := by
  induction before with
  | nil => exact settleOffer_cons_of_settled hs
  | cons x r ih =>
    rw [List.cons_append, settleOffer_cons_of_not_settled (hb x List.mem_cons_self),
      ih fun y hy => hb y (List.mem_cons_of_mem x hy)]
    rfl

/-- An entry that only itself settles leaves the list as it is where it stands on it. -/
theorem settleOffer_of_mem (hself : ∀ x, SettledBy e x ↔ x = e) (hm : e ∈ l) : settleOffer e l = some l := by
  obtain ⟨before, after, rfl, hb⟩ := List.eq_append_cons_of_mem hm
  exact settleOffer_first (fun x hx hs => hb ((hself x).mp hs ▸ hx)) ((hself e).mpr rfl)

theorem dropOldestRefresh_first {n : Nat} (hb : ∀ m, .refresh m ∉ before) :
    dropOldestRefresh (before ++ .refresh n :: after) = before ++ after := by
  induction before with
  | nil => rfl
  | cons x r ih =>
    have hr := ih fun m hm => hb m (List.mem_cons_of_mem x hm)
    cases x with
    | refresh m => exact absurd List.mem_cons_self (hb m)
    | disable a => simpa [dropOldestRefresh, ExpediteEntry.isRefresh] using hr
    | decline slot event reason => simpa [dropOldestRefresh, ExpediteEntry.isRefresh] using hr

theorem any_isRefresh_eq_false (h : ∀ n, .refresh n ∉ l) : l.any (fun x => x.isRefresh) = false := by
  refine List.any_eq_false.mpr fun x hx => ?_
  cases x with
  | refresh n => exact absurd hx (h n)
  | disable a => simp [ExpediteEntry.isRefresh]
  | decline slot event reason => simp [ExpediteEntry.isRefresh]

end Settled

-- the offer to the Expedite List (R119 to R121, R123)

section Offer

variable {s : State} {e : ExpediteEntry} {l : List ExpediteEntry}

theorem offer_settled (h : settleOffer e s.down.expedite = some l) :
    s.offer e = { s with down := { s.down with expedite := l } } := by
  simp [State.offer, h, State.withDown]

theorem offer_held (h : settleOffer e s.down.expedite = some s.down.expedite) : s.offer e = s := offer_settled h

theorem offer_appended (h : settleOffer e s.down.expedite = none) (hlen : s.down.expedite.length < 32) :
    s.offer e = { s with down := { s.down with expedite := s.down.expedite ++ [e] } } := by
  simp [State.offer, h, hlen, State.withDown]

/-- A full list drops an offered REFRESH (R121). -/
theorem offer_refresh_full {slot : Nat} (h : settleOffer (.refresh slot) s.down.expedite = none)
    (hlen : 32 ≤ s.down.expedite.length) :
    s.offer (.refresh slot) = { s with down := { s.down with drops := min 65535 (s.down.drops + 1) } } := by
  simp [State.offer, h, Nat.not_lt.mpr hlen, ExpediteEntry.isRefresh, State.withDown, Downstream.countDrop, satAdd]

/-- A full list gives a DISABLE or a DECLINE the place of its oldest REFRESH (R121). -/
theorem offer_for_refresh {before after : List ExpediteEntry} {n : Nat} (h : settleOffer e s.down.expedite = none)
    (he : e.isRefresh = false) (hlen : 32 ≤ s.down.expedite.length)
    (hl : s.down.expedite = before ++ .refresh n :: after) (hb : ∀ m, .refresh m ∉ before) :
    s.offer e = { s with down := { s.down with
      expedite := before ++ after ++ [e], drops := min 65535 (s.down.drops + 1) } } := by
  have hany : s.down.expedite.any (fun x => x.isRefresh) = true := by simp [hl, ExpediteEntry.isRefresh]
  have hdrop : dropOldestRefresh s.down.expedite = before ++ after := hl ▸ dropOldestRefresh_first hb
  simp only [State.offer, h, Nat.not_lt.mpr hlen, he, hany, hdrop]
  rfl

/-- A full list without a REFRESH drops a DISABLE, with a notice (R121). -/
theorem offer_disable_full {a : Nat} (h : settleOffer (.disable a) s.down.expedite = none)
    (hlen : 32 ≤ s.down.expedite.length) (hn : ∀ n, .refresh n ∉ s.down.expedite) :
    s.offer (.disable a) = { s with
      down := { s.down with drops := min 65535 (s.down.drops + 1) }
      notices := s.notices.post s.clock.minute .disableLost (.converter a) } := by
  simp only [State.offer, h, Nat.not_lt.mpr hlen, any_isRefresh_eq_false hn]
  rfl

theorem offer_decline_full {slot event : Nat} {reason : DeclineReason}
    (h : settleOffer (.decline slot event reason) s.down.expedite = none)
    (hlen : 32 ≤ s.down.expedite.length) (hn : ∀ n, .refresh n ∉ s.down.expedite) :
    s.offer (.decline slot event reason) = { s with
      down := { s.down with drops := min 65535 (s.down.drops + 1) } } := by
  simp only [State.offer, h, Nat.not_lt.mpr hlen, any_isRefresh_eq_false hn]
  rfl

theorem report_barred {slot : Nat} (h : s.down.cursor ≤ slot) (hw : s.down.onWire slot = false) : s.report slot = s := by
  simp [State.report, Nat.not_lt.mpr h, hw]

theorem report_offers {slot : Nat} (h : slot < s.down.cursor ∨ s.down.onWire slot = true) :
    s.report slot = s.offer (.refresh slot) := if_pos h

end Offer

/-- Settles O44: a report is the offer of a REFRESH or nothing, and an offer is settled by a held entry, appended, or meets
a full list. -/
theorem writeBarrier : Obligations.WriteBarrier := by
  intro s
  have hnone {e : ExpediteEntry} (hself : ∀ x, SettledBy e x ↔ x = e) (hm : e ∉ s.down.expedite) :
      settleOffer e s.down.expedite = none :=
    settleOffer_eq_none fun x hx hs => hm ((hself x).mp hs ▸ hx)
  have href (n : Nat) (x : ExpediteEntry) : SettledBy (.refresh n) x ↔ x = .refresh n := Iff.rfl
  have hdis (a : Nat) (x : ExpediteEntry) : SettledBy (.disable a) x ↔ x = .disable a := Iff.rfl
  refine ⟨fun slot => report_barred, fun slot hb hm => ?_, fun slot hb hm => ?_, fun a hm => ?_, fun a hm => ?_,
    fun a before n after hm hlen hl => ?_, fun a hm hlen => ?_, fun slot event reason =>
    ⟨fun before held after hl hb => ?_, fun hm => ?_⟩⟩
  · rw [report_offers hb]
    exact offer_held (settleOffer_of_mem (href slot) hm)
  · rw [report_offers hb]
    exact ⟨offer_appended (hnone (href slot) hm), offer_refresh_full (hnone (href slot) hm)⟩
  · exact offer_held (settleOffer_of_mem (hdis a) hm)
  · exact offer_appended (hnone (hdis a) hm)
  · exact offer_for_refresh (hnone (hdis a) hm) rfl hlen hl
  · exact offer_disable_full (hnone (hdis a) hm) hlen
  · refine offer_settled ?_
    rw [hl]
    exact settleOffer_first (fun x hx ⟨y, hy⟩ => hb y (hy ▸ hx)) ⟨held, rfl⟩
  · have hfree : settleOffer (.decline slot event reason) s.down.expedite = none :=
      settleOffer_eq_none fun x hx ⟨y, hy⟩ => hm y (hy ▸ hx)
    exact ⟨offer_appended hfree, fun before n after hlen hl => offer_for_refresh hfree rfl hlen hl,
      offer_decline_full hfree⟩

-- the carousel (R115, R116)

section Carousel

variable {s : State} {n passes a : Nat} {r : Subscriber}

/-- Slot n is the carousel's choice, and the pass count is then `passes`: the lowest with a converter at or
above the cursor, or, where there is none, the lowest from 0 on a new pass (R115). -/
def CarouselReaches (s : State) (n passes : Nat) : Prop :=
  (s.down.cursor ≤ n ∧ passes = s.down.passes ∧
      ∀ k x, s.down.cursor ≤ k → k < n → s.slot? k = some x → x.converter = none) ∨
    (passes = (s.down.passes + 1) % 65536 ∧ (∀ k x, k < n → s.slot? k = some x → x.converter = none) ∧
      ∀ k x, s.down.cursor ≤ k → s.slot? k = some x → x.converter = none)

theorem nextConverter_lowest {low : Nat} (hw : s.subs.slots.wf = true) (hr : s.slot? n = some r)
    (hc : r.converter = some a) (hn : low ≤ n)
    (hlow : ∀ k x, low ≤ k → k < n → s.slot? k = some x → x.converter = none) :
    s.nextConverter low = some (n, r) := by
  refine find?_eq_some_of_lowest hw hr (by simp [hn, hc]) fun k x hk hx => ?_
  by_cases hlk : low ≤ k
  · simp [hlow k x hlk hk hx]
  · simp [hlk]

theorem nextConverter_eq_none {low : Nat} (hw : s.subs.slots.wf = true)
    (h : ∀ k x, low ≤ k → s.slot? k = some x → x.converter = none) : s.nextConverter low = none := by
  refine find?_eq_none hw fun k x hx => ?_
  by_cases hlk : low ≤ k
  · simp [h k x hlk hx]
  · simp [hlk]

theorem carouselChoice_reaches (hw : s.subs.slots.wf = true) (hr : s.slot? n = some r) (hc : r.converter = some a)
    (h : CarouselReaches s n passes) : s.carouselChoice = some (n, r, passes) := by
  rcases h with ⟨hn, rfl, hlow⟩ | ⟨rfl, hlow, hnone⟩
  · simp [State.carouselChoice, nextConverter_lowest hw hr hc hn hlow]
  · have hzero := nextConverter_lowest hw hr hc (Nat.zero_le n) fun k x _ => hlow k x
    simp [State.carouselChoice, nextConverter_eq_none hw hnone, hzero]

/-- The carousel's grant as the transmitter holds it: the frame of the record as it stands, the cursor past the slot
(R115, R116). -/
theorem chooseBackground_carousel (hw : s.subs.slots.wf = true) (hr : s.slot? n = some r) (hc : r.converter = some a)
    (h : CarouselReaches s n passes) : s.chooseBackground.down = { s.down with
      transmission := some ⟨.carousel,
        if r.state = .active then .auth n a true s.lineUp.current.number r.tiers r.purchases
        else .auth n a false s.lineUp.current.number 0 []⟩
      cursor := if n = 4095 then 0 else n + 1
      passes := if n = 4095 then (passes + 1) % 65536 else passes
      mapGap := min 7 (s.down.mapGap + 1) } := by
  have hgrant : s.chooseBackground = s.carouselGrant n r passes := by
    simp [State.chooseBackground, carouselChoice_reaches hw hr hc h]
  rw [hgrant]
  by_cases hlast : n = 4095 <;>
    simp [State.carouselGrant, State.transmit, State.authFrame, Downstream.bumpGap, satAdd, hc, hlast]

theorem chooseBackground_map (hw : s.subs.slots.wf = true) (h : ∀ k x, s.slot? k = some x → x.converter = none) :
    s.chooseBackground = s.mapGrant := by
  have hnone (low : Nat) : s.nextConverter low = none := nextConverter_eq_none hw fun k x _ => h k x
  simp [State.chooseBackground, State.carouselChoice, hnone]

end Carousel

-- the end of a transmission with no window frame to send (R110, R111)

section Arbiter

variable {s : State}

/-- Neither engine takes a window: it is not free, or neither an order nor a poll waits for it (R111). -/
def NoWindowFrame (s : State) : Prop := s.windowFree = false ∨ (s.canBuild = false ∧ s.pollDue = false)

theorem pollChoice_eq_none (h : s.pollDue = false) : s.pollChoice = none := by
  obtain ⟨hverify, hround⟩ : s.poll.verify = [] ∧ s.leftInRound = none := by simpa [State.pollDue] using h
  simp [State.pollChoice, hverify, hround]

theorem arbitrate_other (h : NoWindowFrame s) : s.arbitrate = s.chooseOther := by
  rcases h with hfree | ⟨hbuild, hdue⟩
  · simp [State.arbitrate, State.ordersFirst, hfree]
  · simp [State.arbitrate, State.ordersFirst, hbuild, pollChoice_eq_none hdue]

theorem arbitrate_background (hgap : s.down.mapGap ≠ 7) (hwin : NoWindowFrame s)
    (hlist : s.expediteHead s.down.expedite = none) :
    s.arbitrate = ({ s with down := { s.down with expedite := [] } } : State).chooseBackground := by
  simp [arbitrate_other hwin, State.chooseOther, hgap, State.chooseExpedite, hlist, State.withDown]

/-- The window that opens marks its frame in flight, and changes nothing else of the two engines (R81, R98, R130). -/
theorem openWindow_flights (s : State) (f : DownFrame) : ∃ u fp fo,
    s.openWindow f = { s with up := u, poll := { s.poll with flight := fp }, orders := { s.orders with flight := fo } } ∧
      fp.isNone = s.poll.flight.isNone ∧ fo.isNone = s.orders.flight.isNone := by
  cases f with
  | poll i g m => exact ⟨_, _, _, rfl, by simp, rfl⟩
  | order i g m actions => exact ⟨_, _, _, rfl, rfl, by simp⟩
  | _ => exact ⟨_, _, _, rfl, rfl, rfl⟩

/-- What an entry of the list sends depends on the subscribers and the line-up alone (R122). -/
theorem expediteHead_congr {s t : State} (hsubs : s.subs = t.subs) (hline : s.lineUp = t.lineUp)
    (l : List ExpediteEntry) : s.expediteHead l = t.expediteHead l := by
  have hframe (e : ExpediteEntry) : s.expediteFrame e = t.expediteFrame e := by
    cases e <;> simp only [State.expediteFrame, State.slot?, State.authFrame, hsubs, hline]
  induction l with
  | nil => rfl
  | cons e rest ih => simp only [State.expediteHead, hframe, ih]

/-- With no window frame, no due map frame and no entry that can be sent, the choice falls to the carousel and the map
stream, with the list empty (R111, R122). -/
theorem endTransmission_background {tr : Transmission} (htr : s.down.transmission = some tr) (hgap : s.down.mapGap ≠ 7)
    (hwin : NoWindowFrame s) (hlist : s.expediteHead s.down.expedite = none) : ∃ u p o,
    s.endTransmission = ({ s with down := { s.down with transmission := none, expedite := [] }, up := u, poll := p,
                                  orders := o } : State).chooseBackground := by
  obtain ⟨u, fp, fo, hopen, hp, ho⟩ := openWindow_flights (s.withDown { s.down with transmission := none }) tr.frame
  have hend : s.endTransmission = ({ s with
      down := { s.down with transmission := none }, up := u, poll := { s.poll with flight := fp }
      orders := { s.orders with flight := fo } } : State).arbitrate := by
    simp only [State.endTransmission, htr, hopen]
    rfl
  refine ⟨u, { s.poll with flight := fp }, { s.orders with flight := fo }, hend.trans ?_⟩
  have hfree : fp.isNone = s.poll.flight.isNone ∧ fo.isNone = s.orders.flight.isNone := ⟨hp, ho⟩
  refine arbitrate_background hgap (Or.imp_left (fun h => ?_) hwin) ((expediteHead_congr (t := s) ?_ ?_ _).trans hlist)
  · simpa [State.windowFree, hfree] using h
  · rfl
  · rfl

end Arbiter

/-- Settles O43: the grant of `chooseBackground_carousel`, or of the map stream where no record has a converter, on the state
the end of a transmission leaves to lines 4 and 5. -/
theorem carouselSends : Obligations.CarouselSends := by
  refine ⟨fun s n r a hw hr hc hn hcur hlow => ?_, fun s tr htr hgap hwin hlist =>
    ⟨fun n passes r a hw hr hc hreach => ?_, fun hw hnone => ?_⟩⟩
  · have hdown := chooseBackground_carousel hw hr hc (.inl ⟨hcur, rfl, hlow⟩)
    obtain ⟨d, hd⟩ := chooseBackground_frame s
    have hn' : n ≠ 4095 := by omega
    exact ⟨_, rfl, by simp [hdown, hn'], by simp [hdown, hn'], by simp [hdown], by rw [hd]⟩
  · obtain ⟨u, p, o, hend⟩ := endTransmission_background htr hgap hwin hlist
    exact ⟨_, congrArg Host.Outcome.next hend, chooseBackground_carousel hw hr hc hreach⟩
  · obtain ⟨u, p, o, hend⟩ := endTransmission_background htr hgap hwin hlist
    exact ⟨_, _, congrArg Host.Outcome.next (hend.trans (chooseBackground_map hw hnone)), rfl, rfl, rfl⟩

-- what every operation leaves of the System Code (R185)

section Kept

variable {s t : State}

@[simp] theorem done_fst (v : Values) (s : State) : (done v s).1 = s := rfl

@[simp] theorem accepted_fst (v : Values) (s : State) : (accepted v s).1 = s := rfl

@[simp] theorem refuse_fst (st : Status) (s : State) : (refuse st s).1 = s := rfl

@[simp] theorem refuseFor_fst (st : Status) (r : Reason) (v : Values) (s : State) : (refuseFor st r v s).1 = s := rfl

@[simp] theorem offer_systemCode (e : ExpediteEntry) : (s.offer e).systemCode = s.systemCode := by
  obtain ⟨_, _, _, h⟩ := offer_frame e s
  rw [h]

@[simp] theorem offerDisable_systemCode (old : Option Nat) : (s.offerDisable old).systemCode = s.systemCode := by
  cases old with
  | none => rfl
  | some a => exact offer_systemCode _

@[simp] theorem report_systemCode (slot : Nat) : (s.report slot).systemCode = s.systemCode := by
  obtain ⟨_, _, h⟩ := report_frame slot s
  rw [h]

@[simp] theorem reportRecord_systemCode (slot : Nat) : (s.reportRecord slot).systemCode = s.systemCode := by
  obtain ⟨_, _, h⟩ := reportRecord_frame slot s
  rw [h]

@[simp] theorem setSlot_systemCode (n : Nat) (r : Subscriber) : (s.setSlot n r).systemCode = s.systemCode := rfl

@[simp] theorem setTiers_systemCode (slot : Nat) (r : Subscriber) (m : TierSet) :
    (s.setTiers slot r m).systemCode = s.systemCode := reportRecord_systemCode _

theorem placeOrder_systemCode {tap port : Nat} {setting : Setting} {origin : Option Nat}
    (h : s.placeOrder tap port setting origin = some t) : t.systemCode = s.systemCode := by
  by_cases hp : s.canPlace tap port
  · obtain ⟨q, hq, -⟩ := (placeOrder_spec s tap port setting origin).1 hp
    cases hq.symm.trans h
    rfl
  · cases ((placeOrder_spec s tap port setting origin).2 hp).symm.trans h

theorem serve_systemCode {slot : Nat} {r : Subscriber} {p : PortRef} {st : ServiceState}
    (h : s.serve slot r p st = some t) : t.systemCode = s.systemCode := by
  obtain ⟨u, hu, rfl⟩ := Option.map_eq_some_iff.mp h
  have hplaced := placeOrder_systemCode hu
  simpa using hplaced

@[simp] theorem releasePort_systemCode (slot : Nat) (p : PortRef) :
    (s.releasePort slot p).systemCode = s.systemCode := rfl

@[simp] theorem linkPort_systemCode (slot tap port : Nat) (r : Subscriber) :
    (s.linkPort slot tap port r).systemCode = s.systemCode := by
  unfold State.linkPort
  cases r.port <;> rfl

@[simp] theorem dropConverter_systemCode (r : Subscriber) : (s.dropConverter r).systemCode = s.systemCode := by
  unfold State.dropConverter
  split <;> simp

@[simp] theorem dropPort_systemCode (slot : Nat) (r : Subscriber) : (s.dropPort slot r).systemCode = s.systemCode := by
  unfold State.dropPort
  split <;> simp

@[simp] theorem retireSlot_systemCode (slot : Nat) (r : Subscriber) :
    (s.retireSlot slot r).systemCode = s.systemCode := by
  simp [State.retireSlot]

@[simp] theorem checkRound_systemCode : s.checkRound.systemCode = s.systemCode := by
  obtain ⟨_, _, _, h⟩ := checkRound_frame s
  rw [h]

@[simp] theorem beginWalk_systemCode : s.beginWalk.systemCode = s.systemCode := by
  obtain ⟨_, _, _, h⟩ := beginWalk_frame s
  rw [h]

@[simp] theorem requestWalk_systemCode (i : Nat) (k : PropagationKind) :
    (s.requestWalk i k).systemCode = s.systemCode := by
  obtain ⟨_, _, _, h⟩ := requestWalk_frame s i k
  rw [h]

@[simp] theorem modifyElement_systemCode (i : Nat) (f : Element → Element) :
    (s.modifyElement i f).systemCode = s.systemCode := rfl

@[simp] theorem insertElement_systemCode (i : Nat) (e : Element) : (s.insertElement i e).systemCode = s.systemCode := rfl

@[simp] theorem deleteElement_systemCode (i : Nat) (e : Element) : (s.deleteElement i e).systemCode = s.systemCode :=
  checkRound_systemCode

@[simp] theorem enablePolling_systemCode (i : Nat) (e : Element) : (s.enablePolling i e).systemCode = s.systemCode := rfl

@[simp] theorem disablePolling_systemCode (i : Nat) (p : PollRecord) :
    (s.disablePolling i p).systemCode = s.systemCode := by
  by_cases h : p.state = .failed <;> simp [State.disablePolling, h]

@[simp] theorem setTier_systemCode (n : Nat) (x : Tier) : (s.setTier n x).systemCode = s.systemCode := rfl

@[simp] theorem setEditor_systemCode (e : Editor) : (s.setEditor e).systemCode = s.systemCode := rfl

@[simp] theorem post_systemCode (b : NoticeBody) (x : Subject) : (s.post b x).systemCode = s.systemCode := rfl

@[simp] theorem changeover_systemCode (days : Nat) : (s.changeover days).systemCode = s.systemCode := rfl

@[simp] theorem chooseWalk_systemCode : s.chooseWalk.systemCode = s.systemCode := by
  obtain ⟨_, _, h⟩ := chooseWalk_frame s
  rw [h]

@[simp] theorem offerMinute_systemCode : s.offerMinute.systemCode = s.systemCode := by
  obtain ⟨_, _, _, _, _, h⟩ := offerMinute_frame s
  rw [h]

@[simp] theorem setClock_systemCode (minute : Nat) : (s.setClock minute).systemCode = s.systemCode := by
  unfold State.setClock
  repeat' split
  all_goals simp

@[simp] theorem arbitrate_systemCode : s.arbitrate.systemCode = s.systemCode := by
  obtain ⟨_, _, _, h⟩ := arbitrate_frame s
  rw [h]

end Kept

-- what every request leaves of it: all but SET SYSTEM CODE

section Requests

/-- The request leaves the System Code as it is. -/
def KeepsCode (q : Request) : Prop := ∀ s, (q s).1.systemCode = s.systemCode

theorem withSlot_keepsCode {slot : Nat} {k : Subscriber → Request} (hk : ∀ r, KeepsCode (k r)) :
    KeepsCode (withSlot slot k) := by
  intro s
  unfold withSlot
  repeat' split
  case h_2 => exact hk _ s
  all_goals simp

theorem unassignPort_keepsCode (slot : Nat) : KeepsCode (unassignPort slot) :=
  withSlot_keepsCode fun r s => by
    repeat' split
    all_goals simp

theorem assignPortTo_keepsCode (slot tap port : Nat) (r : Subscriber) : KeepsCode (assignPortTo slot tap port r) := by
  intro s
  unfold assignPortTo
  repeat' split
  all_goals simp

theorem assignPort_keepsCode (slot tap port : Nat) : KeepsCode (assignPort slot tap port) := by
  intro s
  unfold assignPort
  split
  · exact unassignPort_keepsCode slot s
  · split
    · simp
    · refine withSlot_keepsCode (fun r s => ?_) s
      split
      · simp
      · exact assignPortTo_keepsCode slot tap port r s

theorem assignConverter_keepsCode (slot address : Nat) : KeepsCode (assignConverter slot address) := by
  intro s
  unfold assignConverter
  split
  · simp
  · refine withSlot_keepsCode (fun r s => ?_) s
    generalize (if address = 0 then none else some address) = new
    dsimp only
    repeat' split
    all_goals simp

theorem setCeiling_keepsCode (slot ceiling : Nat) : KeepsCode (setCeiling slot ceiling) := by
  intro s
  unfold setCeiling
  split
  · simp
  · exact withSlot_keepsCode (fun r s => by simp) s

theorem changeService_keepsCode (slot : Nat) (from_ : ServiceState → Bool) (to_ : ServiceState) :
    KeepsCode (changeService slot from_ to_) :=
  withSlot_keepsCode fun r s => by
    split
    · simp
    · split
      · simp
      · split
        next hserve => exact serve_systemCode hserve
        next => simp

theorem reissue_keepsCode (slot : Nat) : KeepsCode (reissue slot) :=
  withSlot_keepsCode fun r s => by
    split
    · simp
    · split
      next hplace => exact placeOrder_systemCode hplace
      next => simp

theorem clearPort_keepsCode (tap port : Nat) : KeepsCode (clearPort tap port) := by
  intro s
  unfold clearPort
  cases hplace : s.placeOrder tap port .off none with
  | none =>
    dsimp only
    repeat' split
    all_goals simp
  | some t =>
    have hcode : t.systemCode = s.systemCode := placeOrder_systemCode hplace
    dsimp only
    repeat' split
    all_goals simp [hcode]

theorem grantTiers_keepsCode (slot : Nat) (tiers : TierSet) : KeepsCode (grantTiers slot tiers) :=
  withSlot_keepsCode fun r s => by
    dsimp only
    repeat' split
    all_goals simp

theorem revokeTiers_keepsCode (slot : Nat) (tiers : TierSet) : KeepsCode (revokeTiers slot tiers) :=
  withSlot_keepsCode fun r s => by
    dsimp only
    repeat' split
    all_goals simp

theorem retire_keepsCode (slot : Nat) : KeepsCode (retire slot) :=
  withSlot_keepsCode fun r s => by
    repeat' split
    all_goals simp

theorem takeNotice_keepsCode : KeepsCode takeNotice := by
  intro s
  unfold takeNotice
  dsimp only
  split
  all_goals simp

theorem request_keepsCode {i : Instr} {tag : Nat} {q : Request} (hi : requestOf? i = some (tag, q))
    (hne : ∀ code, i ≠ .setSystemCode tag code) : KeepsCode q := by
  cases i <;> cases hi
  case assignConverter => exact assignConverter_keepsCode _ _
  case assignPort => exact assignPort_keepsCode _ _ _
  case setCeiling => exact setCeiling_keepsCode _ _
  case grantTiers => exact grantTiers_keepsCode _ _
  case revokeTiers => exact revokeTiers_keepsCode _ _
  case connect | suspend | resume | disconnect => exact changeService_keepsCode _ _ _
  case reissue => exact reissue_keepsCode _
  case retire => exact retire_keepsCode _
  case readSubscriber => exact withSlot_keepsCode fun _ _ => rfl
  case addSubscriber | findSubscriber =>
    intro s
    simp only [addSubscriber, findSubscriber]
    repeat' split
    all_goals simp
  case defineTier | setTierRate | undefineTier | readTier =>
    intro s
    simp only [defineTier, setTierRate, undefineTier, Machine.readTier]
    repeat' split
    all_goals simp
  case putChannel | dropChannel | beginEdit | abandonEdit | promote | cancelPromote | readChannel =>
    intro s
    simp only [putChannel, dropChannel, beginEdit, abandonEdit, promote, cancelPromote, readChannel]
    repeat' split
    all_goals simp
  case putOffer | withdrawOffer | readOffer =>
    intro s
    simp only [putOffer, withdrawOffer, Machine.readOffer]
    repeat' split
    all_goals simp
  case addElement | removeElement | findElement | readElement =>
    intro s
    simp only [addElement, removeElement, findElement, readElement]
    repeat' split
    all_goals simp
  case setPollSettings | setPolling | setLevelWindow =>
    intro s
    simp only [setPollSettings, setPolling, setLevelWindow]
    repeat' split
    all_goals simp
  case clearPort => exact clearPort_keepsCode _ _
  case readOrder | setThreshold | startPeriod | takeStatement | setAlarmLevel | setTime =>
    intro s
    simp only [readOrder, setThreshold, startPeriod, takeStatement, setAlarmLevel, setTime]
    repeat' split
    all_goals simp
  case takeNotice => exact takeNotice_keepsCode
  case readPolling | readDownstream | readCounters | readAccrual | readStatus | restart => exact fun _ => rfl
  case setSystemCode code => exact absurd rfl (hne code)

end Requests

-- what the restart and the events of the part leave of it (R141, R186)

section Events

variable {s : State}

@[simp] theorem respond_systemCode (tag : Nat) (a : State × Reply) :
    (State.respond tag a).systemCode = a.1.systemCode := rfl

@[simp] theorem restartNotices_systemCode (cause : RestartCause) :
    (s.restartNotices cause).systemCode = s.systemCode := rfl

@[simp] theorem restartPolling_systemCode : s.restartPolling.systemCode = s.systemCode := rfl

theorem loseDisable_systemCode (e : ExpediteEntry) : (s.loseDisable e).systemCode = s.systemCode := by
  cases e <;> rfl

theorem loseDisables_systemCode (l : List ExpediteEntry) : (l.foldl State.loseDisable s).systemCode = s.systemCode := by
  induction l generalizing s with
  | nil => rfl
  | cons e rest ih => exact ih.trans (loseDisable_systemCode e)

@[simp] theorem restartDownstream_systemCode : s.restartDownstream.systemCode = s.systemCode :=
  loseDisables_systemCode _

@[simp] theorem restartAccrual_systemCode : s.restartAccrual.systemCode = s.systemCode := by
  unfold State.restartAccrual
  split <;> rfl

@[simp] theorem beginRestart_systemCode (cause : RestartCause) : (s.beginRestart cause).systemCode = s.systemCode := by
  simp [State.beginRestart]

theorem turnPin_systemCode : s.turnPin.systemCode = s.systemCode := by
  unfold State.turnPin
  dsimp only
  split <;> simp

theorem finishRestart_systemCode : s.finishRestart.systemCode = s.systemCode := by
  have hresume (u : State) : u.resumeAccrual.systemCode = u.systemCode := by
    unfold State.resumeAccrual
    split <;> simp
  unfold State.finishRestart
  dsimp only
  split <;> simp [hresume]

theorem completeRestart_systemCode : s.completeRestart.systemCode = s.systemCode := by
  unfold State.completeRestart
  split
  · exact finishRestart_systemCode
  · rfl

theorem minutePasses_systemCode : s.minutePasses.systemCode = s.systemCode := by
  unfold State.minutePasses
  split <;> simp

theorem secondPasses_systemCode : s.secondPasses.systemCode = s.systemCode := by
  unfold State.secondPasses
  split
  · rfl
  · exact minutePasses_systemCode

-- the walks of the Accrual Engine and of the Plant Tree

@[simp] theorem prune_systemCode (n : Nat) (r : Subscriber) : (s.prune n r).systemCode = s.systemCode := by
  unfold State.prune
  dsimp only
  split <;> simp

theorem accrualStep_systemCode (tick n : Nat) (r : Subscriber) : (s.accrualStep tick n r).systemCode = s.systemCode := by
  unfold State.accrualStep State.postSaturated
  dsimp only
  split <;> simp [State.passSlot]

theorem accrualVisit_systemCode : s.accrualVisit.systemCode = s.systemCode := by
  unfold State.accrualVisit
  split
  · exact accrualStep_systemCode _ _ _
  · rfl

theorem accrualEnd_systemCode : s.accrualEnd.systemCode = s.systemCode := by
  unfold State.accrualEnd
  split <;> simp

theorem periodStep_systemCode (previous : Nat) (closing : Bool) (closed merged n : Nat) (r : Subscriber) :
    (s.periodStep previous closing closed merged n r).systemCode = s.systemCode := by
  unfold State.periodStep
  dsimp only
  split <;> simp [State.passSlot]

theorem periodVisit_systemCode : s.periodVisit.systemCode = s.systemCode := by
  unfold State.periodVisit
  split
  · rfl
  · split
    · exact periodStep_systemCode _ _ _ _ _ _
    · rfl

theorem periodEnd_systemCode : s.periodEnd.systemCode = s.systemCode := by
  unfold State.periodEnd State.postPeriodDone
  split
  · rfl
  · split <;> simp

@[simp] theorem visit_systemCode (i : Nat) : (s.visit i).1.systemCode = s.systemCode := by
  obtain ⟨_, _, h⟩ := visit_frame s i
  rw [h]

@[simp] theorem takeMark_systemCode (i : Nat) : (s.takeMark i).1.systemCode = s.systemCode := by
  obtain ⟨_, h⟩ := takeMark_frame s i
  rw [h]

@[simp] theorem pay_systemCode (o : Owing) : (s.pay o).systemCode = s.systemCode := by
  obtain ⟨_, h⟩ := pay_frame s o
  rw [h]

@[simp] theorem pay_all_systemCode (l : List Owing) : (l.foldl State.pay s).systemCode = s.systemCode := by
  obtain ⟨_, h⟩ := pay_all_frame l s
  rw [h]

@[simp] theorem endWalk_systemCode : s.endWalk.systemCode = s.systemCode := by
  obtain ⟨_, _, _, _, h⟩ := endWalk_frame s
  rw [h]

theorem propagationVisit_systemCode : s.propagationVisit.systemCode = s.systemCode := by
  unfold State.propagationVisit State.propagationStep
  split
  · dsimp only
    split <;> simp
  · rfl

theorem rederiveVisit_systemCode : s.rederiveVisit.systemCode = s.systemCode := by
  unfold State.rederiveVisit
  split <;> simp [State.rederiveStep]

theorem propagationEnd_systemCode : s.propagationEnd.systemCode = s.systemCode := by
  unfold State.propagationEnd
  split <;> simp

theorem rederiveEnd_systemCode : s.rederiveEnd.systemCode = s.systemCode := by
  unfold State.rederiveEnd
  split <;> simp

theorem roundExpires_systemCode : s.roundExpires.systemCode = s.systemCode := by
  unfold State.roundExpires
  split <;> simp

-- the outcomes of polls and order frames, and the frames of the plant

@[simp] theorem answerPower_systemCode (i : Nat) (p : PollRecord) (now : PowerState) :
    (s.answerPower i p now).systemCode = s.systemCode := by
  unfold State.answerPower
  dsimp only
  split <;> simp

@[simp] theorem answerLevel_systemCode (i : Nat) (p : PollRecord) (level : Int) :
    (s.answerLevel i p level).systemCode = s.systemCode := by
  unfold State.answerLevel
  dsimp only
  split <;> simp

@[simp] theorem pollAnswer_systemCode (i : Nat) (level : Int) (power : PowerState) :
    (s.pollAnswer i level power).systemCode = s.systemCode := by
  unfold State.pollAnswer
  dsimp only
  repeat' split
  all_goals simp

@[simp] theorem pollSilence_systemCode (i : Nat) : (s.pollSilence i).systemCode = s.systemCode := by
  unfold State.pollSilence
  dsimp only
  repeat' split
  all_goals simp

@[simp] theorem settleFrame_systemCode (f : OrderFlight) (outcome : Nat → PortOutcome) :
    (s.settleFrame f outcome).systemCode = s.systemCode := by
  obtain ⟨_, _, _, h⟩ := settleFrame_frame s f outcome
  rw [h]

@[simp] theorem endPoll_systemCode : s.endPoll.1.systemCode = s.systemCode := by
  unfold State.endPoll
  split <;> rfl

@[simp] theorem deliverAnswer_systemCode (level : Int) (power : PowerState) :
    (s.deliverAnswer level power).systemCode = s.systemCode := by
  have hend := endPoll_systemCode (s := s)
  unfold State.deliverAnswer
  split
  next h => simpa [h] using hend
  next h => simpa [h] using hend

@[simp] theorem deliverSilence_systemCode (w : ReplyWindow) : (s.deliverSilence w).systemCode = s.systemCode := by
  have hend := endPoll_systemCode (s := s)
  unfold State.deliverSilence
  split
  · split
    next h => simpa [h] using hend
    next h => simpa [h] using hend
  · split <;> simp

@[simp] theorem unanswered_systemCode (w : ReplyWindow) : (s.unanswered w).systemCode = s.systemCode :=
  deliverSilence_systemCode w

@[simp] theorem holdWindow_systemCode (w : ReplyWindow) : (s.holdWindow w).systemCode = s.systemCode := by
  unfold State.holdWindow
  repeat' split
  all_goals simp

@[simp] theorem deliverResults_systemCode (results : List (Nat × Nat)) :
    (s.deliverResults results).systemCode = s.systemCode := by
  unfold State.deliverResults
  split <;> simp

@[simp] theorem countUp_systemCode (f : Counters → Counters) : (s.countUp f).systemCode = s.systemCode := rfl

@[simp] theorem closeWindow_systemCode : s.closeWindow.systemCode = s.systemCode := rfl

@[simp] theorem countReply_systemCode (kind : WindowKind) (group member : Nat) :
    (s.countReply kind group member).systemCode = s.systemCode := by
  unfold State.countReply
  split <;> simp

@[simp] theorem purchaseFrom_systemCode (converter event : Nat) :
    (s.purchaseFrom converter event).systemCode = s.systemCode := by
  unfold State.purchaseFrom State.purchaseBy State.decline
  repeat' split
  all_goals simp

@[simp] theorem passOn_systemCode (f : UpFrame) : (s.passOn f).systemCode = s.systemCode := by
  cases f with
  | pollReply | orderReply | hold =>
    simp only [State.passOn]
    split <;> simp
  | purchase converter event => exact purchaseFrom_systemCode converter event

@[simp] theorem checkFrame_systemCode (system : Option Nat) (f : Option UpFrame) :
    (s.checkFrame system f).systemCode = s.systemCode := by
  unfold State.checkFrame
  repeat' split
  all_goals simp

theorem endFrame_systemCode {check : State → State} (h : ∀ u, (check u).systemCode = u.systemCode) :
    (s.endFrame check).systemCode = s.systemCode := by
  unfold State.endFrame
  dsimp only
  split
  · rfl
  · exact h _

theorem arrive_systemCode (system : Nat) (f : UpFrame) : (s.arrive system f).systemCode = s.systemCode :=
  endFrame_systemCode fun _ => checkFrame_systemCode _ _

theorem takeIn_systemCode (frame : Option (List Byte)) : (s.takeIn frame).systemCode = s.systemCode := by
  cases frame with
  | none => rfl
  | some bytes =>
    refine endFrame_systemCode fun u => ?_
    unfold State.checkBytes
    split <;> simp

theorem windowExpires_systemCode : s.windowExpires.systemCode = s.systemCode := by
  unfold State.windowExpires
  split <;> simp

theorem endTransmission_systemCode : s.endTransmission.systemCode = s.systemCode := by
  obtain ⟨_, _, _, _, h⟩ := endTransmission_frame s
  rw [h]

end Events

-- a code that is set is kept by every command but a power-on reset (R185)

section SetCode

variable {s : State} {k : Nat}

/-- SET SYSTEM CODE included, a request leaves a code that is set. -/
theorem request_keeps_set {i : Instr} {tag : Nat} {q : Request} (hi : requestOf? i = some (tag, q))
    (hk : s.systemCode = some k) : (q s).1.systemCode = some k := by
  by_cases hset : ∃ code, i = .setSystemCode tag code
  · obtain ⟨code, rfl⟩ := hset
    cases hi
    simp [setSystemCode, hk]
  · exact (request_keepsCode hi (fun code h => hset ⟨code, h⟩) s).trans hk

theorem release_keeps_set {take : State → State} (ht : ∀ u, u.systemCode = some k → (take u).systemCode = some k)
    (hk : s.systemCode = some k) : (s.release take).systemCode = some k := by
  unfold State.release
  dsimp only
  split
  · exact hk
  · exact ht _ hk

theorem exchange_keeps_set {i : Instr} {tag : Nat} {q : Request} (hi : requestOf? i = some (tag, q))
    (hk : s.systemCode = some k) : (s.exchange tag q).systemCode = some k := by
  refine release_keeps_set (fun u hu => ?_) hk
  split
  · simpa using hu
  · exact request_keeps_set (s := u.emptyBuffer) hi hu

theorem collect_keeps_set (dataIn : List Byte) (hk : s.systemCode = some k) :
    (s.collect dataIn).systemCode = some k := by
  unfold State.collect State.takeFrame
  split
  · exact hk
  · split
    · exact hk
    · split
      · exact hk
      · split
        next hi => exact request_keeps_set hi hk
        next => exact hk

theorem endPeriod_keeps_set (clocked : Nat) (dataIn : List Byte) (hk : s.systemCode = some k) :
    (s.endPeriod clocked dataIn).systemCode = some k := by
  unfold State.endPeriod
  split
  · exact collect_keeps_set dataIn hk
  · split
    · split
      · simpa using hk
      · exact collect_keeps_set (s := s.emptyBuffer) dataIn hk
    · exact collect_keeps_set dataIn hk

theorem selectPeriod_keeps_set (edge : SelectEdge) (dataIn : List Byte) (hk : s.systemCode = some k) :
    (s.selectPeriod edge dataIn).systemCode = some k := by
  cases edge with
  | asserted => exact hk
  | released clocked => exact release_keeps_set (fun u hu => endPeriod_keeps_set clocked dataIn hu) hk

theorem exec_event_keeps_set {c : Instr} (hr : requestOf? c = none) (hc : ∀ straps, c ≠ .powerOnReset straps)
    (hk : s.systemCode = some k) : ∃ t, exec c s = .next t ∧ t.systemCode = some k := by
  cases c <;> cases hr
  case selectPeriod => exact ⟨_, rfl, selectPeriod_keeps_set _ _ hk⟩
  case resetPin => exact ⟨_, rfl, turnPin_systemCode.trans hk⟩
  case restartComplete => exact ⟨_, rfl, completeRestart_systemCode.trans hk⟩
  case powerOnReset straps => exact absurd rfl (hc straps)
  case secondTick => exact ⟨_, rfl, secondPasses_systemCode.trans hk⟩
  case minuteEvent => exact ⟨_, rfl, minutePasses_systemCode.trans hk⟩
  case accrualVisit => exact ⟨_, rfl, accrualVisit_systemCode.trans hk⟩
  case accrualWalkEnd => exact ⟨_, rfl, accrualEnd_systemCode.trans hk⟩
  case periodVisit => exact ⟨_, rfl, periodVisit_systemCode.trans hk⟩
  case periodWalkEnd => exact ⟨_, rfl, periodEnd_systemCode.trans hk⟩
  case propagationVisit => exact ⟨_, rfl, propagationVisit_systemCode.trans hk⟩
  case rederiveVisit => exact ⟨_, rfl, rederiveVisit_systemCode.trans hk⟩
  case propagationWalkEnd => exact ⟨_, rfl, propagationEnd_systemCode.trans hk⟩
  case rederiveWalkEnd => exact ⟨_, rfl, rederiveEnd_systemCode.trans hk⟩
  case roundTimerExpiry => exact ⟨_, rfl, roundExpires_systemCode.trans hk⟩
  case transmissionEnd => exact ⟨_, rfl, endTransmission_systemCode.trans hk⟩
  case pollReply | orderReply | hold | purchase => exact ⟨_, rfl, (arrive_systemCode _ _).trans hk⟩
  case unknownKindFrame => exact ⟨_, rfl, (takeIn_systemCode _).trans hk⟩
  case windowExpiry => exact ⟨_, rfl, windowExpires_systemCode.trans hk⟩

theorem exec_keeps_set {c : Instr} (hc : ∀ straps, c ≠ .powerOnReset straps) (hk : s.systemCode = some k) :
    ∃ t, exec c s = .next t ∧ t.systemCode = some k := by
  cases hr : requestOf? c with
  | some p => exact ⟨_, exec_of_requestOf? hr s, exchange_keeps_set hr hk⟩
  | none => exact exec_event_keeps_set hr hc hk

end SetCode

-- the first choice of the transmitter (R110, R185)

section FirstChoice

variable {s : State}

theorem chooseBackground_transmits : s.chooseBackground.down.transmission.isSome = true := by
  unfold State.chooseBackground
  split <;> rfl

theorem chooseOther_transmits : s.chooseOther.down.transmission.isSome = true := by
  unfold State.chooseOther State.chooseExpedite
  split
  · rfl
  · split
    · rfl
    · exact chooseBackground_transmits

@[simp] theorem checkRound_down : s.checkRound.down = s.down := by
  obtain ⟨_, _, _, h⟩ := checkRound_frame s
  rw [h]

/-- Whatever the arbiter chooses, a frame is on the wire after its choice. -/
theorem arbitrate_transmits : s.arbitrate.down.transmission.isSome = true := by
  unfold State.arbitrate
  split
  · split
    · rfl
    · exact chooseOther_transmits
  · split
    · split
      · simp [State.pollGrant, State.transmit]
      · exact chooseOther_transmits
    · exact chooseOther_transmits

theorem setSystemCode_unset {code : Nat} (h : s.systemCode = none) (hc : within 1 65535 code) :
    setSystemCode code s = done (.systemCode code) (s.withSystemCode (some code)).arbitrate := by
  simp [setSystemCode, h, hc]

theorem setSystemCode_locked {code k : Nat} (h : s.systemCode = some k) : setSystemCode code s = refuse .locked s := by
  simp [setSystemCode, h]

end FirstChoice

/-- Settles O13: a code is set by the one request that finds none, and `exec_keeps_set` says that it stays. -/
theorem systemCodeSetOnce : Obligations.SystemCodeSetOnce := by
  refine ⟨fun tag code s hs hnone hlow hhigh => ?_, fun tag code k s hs hk => ?_, fun c s t k hc hk ht => ?_⟩
  · obtain ⟨d, p, o, h⟩ := arbitrate_frame (s.emptyBuffer.withSystemCode (some code))
    refine ⟨_, exec_done rfl hs (setSystemCode_unset (s := s.emptyBuffer) hnone ⟨hlow, hhigh⟩), ?_, rfl, ?_, ?_⟩
    · exact arbitrate_systemCode
    · exact arbitrate_transmits
    · rw [h]
      rfl
  · exact exec_refuse rfl hs (setSystemCode_locked (s := s.emptyBuffer) hk)
  · obtain ⟨u, hu, hcode⟩ := exec_keeps_set hc hk
    cases hu.symm.trans ht
    exact hcode

end Sys2Proof.Proofs.Downstream
end
